-- ==== Sys2Proof/Word.lean ====
section
/-! DEFINITION. The value types of the spec (00_scope.md R8): unsigned words of fixed width, the
three lines, a level, a direction, and one value per line. -/

namespace Sys2Proof

/-- `u8`: a brightness or contrast byte, or one byte of a line-driver text. -/
abbrev Byte := BitVec 8

/-- `u16`: a register address, a register value, or the packed brightness/contrast word. -/
abbrev Word16 := BitVec 16

/-- `u24`: the word one transmission serializes (R4 `WORD_BITS`). -/
abbrev Word24 := BitVec 24

/-- The command word `cmd[33:0]` of the host port (R50). -/
abbrev Cmd34 := BitVec 34

/-- `Level`: the Boolean a line is driven to, `false` for 0 (low) and `true` for 1 (high) (R10). -/
abbrev Level := Bool

/-- `Line`: chip-select, clock and data, the only three lines of the block (R10). -/
inductive Line where
  | cs
  | clk
  | data
deriving DecidableEq, Repr, Inhabited

/-- `Dir`: the direction last set successfully on a line, `unset` when none has been (R13). -/
inductive Dir where
  | input
  | output
  | unset
deriving DecidableEq, Repr, Inhabited

/-- One value for each line: `L`, `OWNED`, `DIR` and the pin numbers are indexed by `Line` (R8). -/
structure PerLine (α : Type) where
  cs : α
  clk : α
  data : α
deriving DecidableEq, Repr, Inhabited

namespace PerLine

/-- `x[l]` of R8. -/
def get {α : Type} (x : PerLine α) : Line → α
  | .cs => x.cs
  | .clk => x.clk
  | .data => x.data

/-- `x[l] <- b` of R8. -/
def set {α : Type} (x : PerLine α) (l : Line) (b : α) : PerLine α :=
  match l with
  | .cs => { x with cs := b }
  | .clk => { x with clk := b }
  | .data => { x with data := b }

end PerLine

end Sys2Proof
end

