-- ==== Sys2Proof/Config.lean ====
section
/-! DEFINITION. The constants the source fixes (R4), the parameters it leaves open (R5), and the free
values: opaque constants without a body, so that no proof can see what they are. -/

namespace Sys2Proof

/-- Whether line set-up runs on the first SETDISPLAY only or on every one (R5, R97, conflict C3). -/
inductive InitPolicy where
  | once
  | everyCall
deriving DecidableEq, Repr, Inhabited

/-- The second component of a bring-up table entry: a 16-bit constant or the marker `PACKED` (R5). -/
inductive EntryValue where
  | const (v : Word16)
  | packed
deriving DecidableEq, Repr, Inhabited

/-- One entry `(r, e)` of `PANEL_TABLE` (R96). -/
structure PanelEntry where
  reg : Word16
  value : EntryValue
deriving DecidableEq, Repr, Inhabited

/-- `PANEL_TABLE` (R96): an ordered, finite list of 16-bit registers with their values. That exactly one
entry is `PACKED` is a premise (`tablePacked` in WellFormed.lean), so that an empty table is covered too
(R95 corner case). -/
abbrev PanelTable := List PanelEntry

/-- The open parameters of R5 that are data. `pins` numbers the three lines; the lookup tables belong
to the caller (R101). Log 6. -/
structure Params where
  pins : PerLine Nat
  panelTable : PanelTable
  initPolicy : InitPolicy
  brightLut : Vector Byte 8
  contrastLut : Vector Byte 8
deriving DecidableEq, Repr, Inhabited

namespace Config

/-- `TAG_ADDR` (R4). -/
def tagAddr : Byte := 0x70#8

/-- `TAG_DATA` (R4). -/
def tagData : Byte := 0x72#8

/-- `WORD_BITS` (R4). -/
def wordBits : Nat := 24

/-- The nominal value of `T_SETTLE` in microseconds (R5, R135), a lower bound. The model is untimed and
nothing reads it (DESIGN CHOICE, log 15). -/
def settleNominalMicros : Nat := 10

/-- The parameters of the machine at hand (R5): open, so without a body (log 6). -/
opaque params : Params

/-- The environment's answer to the `k`-th attempt since reset, where the state's list of answers does
not give it (R22 `ok()`; free value, log 1). -/
opaque ok : Nat → Bool

/-- The environment's `k`-th drawn level since reset, where the state's list of draws does not give it
(R22 `draw()`; free value, log 2). -/
opaque draw : Nat → Level

/-- The level of each line at reset: a draw (R24; free value, log 3). -/
opaque resetLevel : Line → Level

/-- The content of `W` after a transmission has returned (R14, I6: unspecified; free value, log 5). -/
opaque idleW : Nat → Word24

/-- The content of `A` after a register write has returned (R15, I6; free value, log 5). -/
opaque idleA : Nat → Word16

/-- The content of `V` after a register write has returned (R15, I6; free value, log 5). -/
opaque idleV : Nat → Word16

/-- The content of `P` after a bring-up has returned (R15, I6; free value, log 5). -/
opaque idleP : Nat → Word16

end Config

end Sys2Proof
end

