-- ==== Sys2Proof/Syntax.lean ====
section
/-! DEFINITION. The operations, one constructor per row of spec/opcode_table.json (R56), and the raw
forms in which a request reaches the machine. -/

namespace Sys2Proof

/-- The twelve rows of the opcode table, operands typed at exactly their width: a wider value is no
operand (R37). -/
inductive Instr where
  /-- EXPORT l (R60). -/
  | exportLine (l : Line)
  /-- SETDIR l, in (R61). -/
  | setdirIn (l : Line)
  /-- SETDIR l, out (R61). -/
  | setdirOut (l : Line)
  /-- WRLEVEL l, 0 (R62). -/
  | wrlevel0 (l : Line)
  /-- WRLEVEL l, 1 (R62). -/
  | wrlevel1 (l : Line)
  /-- TRANSMIT w (R70). -/
  | transmit (w : Word24)
  /-- WRITEREG a, v (R85). -/
  | writereg (a v : Word16)
  /-- INITPANEL p (R95). -/
  | initpanel (p : Word16)
  /-- SETDISPLAY b, c (R97). -/
  | setdisplay (b c : Byte)
  /-- FRAME.ADDR: the wire word of an address phase (R46). -/
  | frameAddr (a : Word16)
  /-- FRAME.DATA: the wire word of a data phase (R46). -/
  | frameData (v : Word16)
  /-- FRAME.RAW: any other wire word (R45, R49). -/
  | frameRaw (w : Word24)
deriving DecidableEq, Repr

/-- The three controls of the GPIO pseudo-filesystem (R52), `pin` being the `N` of the path. -/
inductive DriverPath where
  | exportControl
  | direction (pin : Nat)
  | value (pin : Nat)
deriving DecidableEq, Repr

/-- A request in raw form, one constructor per space of the opcode table (R56): a command word at the
host port, a text written to a control of the line driver, a word on the wire. -/
inductive PortItem where
  | command (cmd : Cmd34)
  | driver (path : DriverPath) (text : List Byte)
  | wire (frame : Word24)
deriving DecidableEq, Repr

/-- Why a request spells no operation. -/
inductive DecodeError where
  /-- A must-be-zero field of a command word is not zero (R51). -/
  | mustBeZero
  /-- The text is none the spec gives for that control (R52, N9; log 12). -/
  | unknownText
  /-- The pin number is none of the block's three (R30; log 12). -/
  | foreignPin
deriving DecidableEq, Repr

end Sys2Proof
end

