-- ==== Sys2Proof/WellFormed.lean ====
section
/-! DEFINITION. What the types do not say: a raw frame's top byte is neither tag (R49), and the three
pin numbers are distinct (R5, R40), exactly one table entry is PACKED (R96). -/

namespace Sys2Proof

/-- Bits 23 to 16 of a 24-bit word: its tag byte (R46). -/
def tagOf (w : Word24) : Byte := w.extractLsb' 16 8

/-- FRAME.RAW is the fallback of R49: only a word whose top byte is neither tag is one. Every other
operation is well formed as typed (R37). -/
def Instr.wf : Instr → Bool
  | .exportLine _ => true
  | .setdirIn _ => true
  | .setdirOut _ => true
  | .wrlevel0 _ => true
  | .wrlevel1 _ => true
  | .transmit _ => true
  | .writereg _ _ => true
  | .initpanel _ => true
  | .setdisplay _ _ => true
  | .frameAddr _ => true
  | .frameData _ => true
  | .frameRaw w => tagOf w != Config.tagAddr && tagOf w != Config.tagData

/-- The three pin numbers are distinct (R5 "three distinct natural numbers", R40). -/
def pinsDistinct (pins : PerLine Nat) : Bool :=
  pins.cs != pins.clk && pins.cs != pins.data && pins.clk != pins.data

/-- The entry takes the caller's word (R96). -/
def PanelEntry.isPacked (e : PanelEntry) : Bool :=
  match e.value with
  | .packed => true
  | .const _ => false

/-- Exactly one entry of the table takes the caller's word (R96). -/
def tablePacked (t : PanelTable) : Bool := t.countP PanelEntry.isPacked == 1

/-- What a model may assume of the parameters (R5, R96): the pins are distinct and exactly one entry of
the table is `PACKED`; the rest is carried by the types. -/
def Params.wf (q : Params) : Bool := pinsDistinct q.pins && tablePacked q.panelTable

end Sys2Proof
end

