-- ==== Sys2Proof/Decode.lean ====
section
/-! DEFINITION. Decoding a raw request into an operation (R49, R50, R51, R52), total and rejecting by
name; the encoder; and the table's numbering of its words. -/

namespace Sys2Proof

/-! ### The line driver's texts (R52; ASCII codes PRESUMED from G3, log 22) -/

/-- A list of characters as ASCII bytes. -/
def ascii (cs : List Char) : List Byte := cs.map fun c => BitVec.ofNat 8 c.toNat

/-- The text `in`. -/
def textIn : List Byte := [0x69#8, 0x6E#8]

/-- The text `out`. -/
def textOut : List Byte := [0x6F#8, 0x75#8, 0x74#8]

/-- The text `0`. -/
def textLow : List Byte := [0x30#8]

/-- The text `1`. -/
def textHigh : List Byte := [0x31#8]

/-- The byte of a decimal digit, `0011dddd`. -/
def digitByte (d : Nat) : Byte := BitVec.ofNat 8 (0x30 + d)

/-- The decimal digits of `n`, most significant first, before `acc`; `fuel` above `n` is enough. -/
def decimalOnto (fuel n : Nat) (acc : List Byte) : List Byte :=
  match fuel with
  | 0 => acc
  | fuel + 1 =>
    if n / 10 = 0 then digitByte (n % 10) :: acc
    else decimalOnto fuel (n / 10) (digitByte (n % 10) :: acc)

/-- A number in decimal, most significant digit first, no leading zero (R52). -/
def decimal (n : Nat) : List Byte := decimalOnto (n + 1) n []

/-- The byte is a decimal digit's. -/
def isDigit (b : Byte) : Bool := decide (0x30 ≤ b.toNat) && decide (b.toNat ≤ 0x39)

/-- The number a run of digits spells. -/
def digitsValue (bs : List Byte) : Nat := bs.foldl (fun n b => 10 * n + (b.toNat - 0x30)) 0

/-- A text read as a decimal number. A leading zero is refused: the spec does not say that one may
stand (N9; DESIGN CHOICE, log 12). -/
def readDecimal (bs : List Byte) : Option Nat :=
  match bs with
  | [] => none
  | b :: rest =>
    if (b :: rest).all isDigit && !(b == 0x30#8 && !rest.isEmpty) then some (digitsValue (b :: rest))
    else none

/-- The path a request is written to, as text (R52). -/
def DriverPath.text : DriverPath → List Byte
  | .exportControl =>
    ascii ['/', 's', 'y', 's', '/', 'c', 'l', 'a', 's', 's', '/', 'g', 'p', 'i', 'o', '/',
      'e', 'x', 'p', 'o', 'r', 't']
  | .direction n =>
    ascii ['/', 's', 'y', 's', '/', 'c', 'l', 'a', 's', 's', '/', 'g', 'p', 'i', 'o', '/',
      'g', 'p', 'i', 'o'] ++ decimal n ++ ascii ['/', 'd', 'i', 'r', 'e', 'c', 't', 'i', 'o', 'n']
  | .value n =>
    ascii ['/', 's', 'y', 's', '/', 'c', 'l', 'a', 's', 's', '/', 'g', 'p', 'i', 'o', '/',
      'g', 'p', 'i', 'o'] ++ decimal n ++ ascii ['/', 'v', 'a', 'l', 'u', 'e']

/-- The line a pin number names, if it is one of the block's three (R30). -/
def lineOfPin (pins : PerLine Nat) (n : Nat) : Option Line :=
  if n = pins.cs then some .cs
  else if n = pins.clk then some .clk
  else if n = pins.data then some .data
  else none

/-- A pin number's line, or the refusal of a pin that is not the block's. -/
def decodePin (pins : PerLine Nat) (n : Nat) (mk : Line → Instr) : Except DecodeError Instr :=
  match lineOfPin pins n with
  | some l => .ok (mk l)
  | none => .error .foreignPin

/-- The line-driver space (R52). -/
def decodeDriver (pins : PerLine Nat) (path : DriverPath) (text : List Byte) :
    Except DecodeError Instr :=
  match path with
  | .exportControl =>
    match readDecimal text with
    | some n => decodePin pins n .exportLine
    | none => .error .unknownText
  | .direction n =>
    if text = textIn then decodePin pins n .setdirIn
    else if text = textOut then decodePin pins n .setdirOut
    else .error .unknownText
  | .value n =>
    if text = textLow then decodePin pins n .wrlevel0
    else if text = textHigh then decodePin pins n .wrlevel1
    else .error .unknownText

/-! ### The host port's command word (R50, R51) -/

/-- `cmd[33:32]`. -/
def cmdOpcode (c : Cmd34) : BitVec 2 := c.extractLsb' 32 2

/-- The command word of the host port: the opcode, then the must-be-zero field where the row has one. -/
def decodeCommand (c : Cmd34) : Except DecodeError Instr :=
  match cmdOpcode c with
  | 0#2 => if c.extractLsb' 24 8 = 0#8 then .ok (.transmit (c.extractLsb' 0 24)) else .error .mustBeZero
  | 1#2 => .ok (.writereg (c.extractLsb' 16 16) (c.extractLsb' 0 16))
  | 2#2 => if c.extractLsb' 16 16 = 0#16 then .ok (.initpanel (c.extractLsb' 0 16)) else .error .mustBeZero
  | 3#2 =>
    if c.extractLsb' 16 16 = 0#16 then .ok (.setdisplay (c.extractLsb' 8 8) (c.extractLsb' 0 8))
    else .error .mustBeZero

/-! ### The wire word (R46, R49) -/

/-- The top byte of a wire word, `frame[23:16]` (R46). -/
def frameTag (f : Word24) : Byte := f.extractLsb' 16 8

/-- The classification of R49, total: top byte `0x70`, then `0x72`, then any other. -/
def decodeFrame (f : Word24) : Instr :=
  if frameTag f = Config.tagAddr then .frameAddr (f.extractLsb' 0 16)
  else if frameTag f = Config.tagData then .frameData (f.extractLsb' 0 16)
  else .frameRaw f

/-! ### The three spaces together -/

/-- The decoder: total on every raw request, rejecting by name. -/
def decode (pins : PerLine Nat) : PortItem → Except DecodeError Instr
  | .command c => decodeCommand c
  | .driver path text => decodeDriver pins path text
  | .wire f => .ok (decodeFrame f)

/-- The encoder: the request an operation is written as (R46, R50, R52). -/
def encode (pins : PerLine Nat) : Instr → PortItem
  | .exportLine l => .driver .exportControl (decimal (pins.get l))
  | .setdirIn l => .driver (.direction (pins.get l)) textIn
  | .setdirOut l => .driver (.direction (pins.get l)) textOut
  | .wrlevel0 l => .driver (.value (pins.get l)) textLow
  | .wrlevel1 l => .driver (.value (pins.get l)) textHigh
  | .transmit w => .command (0#2 ++ 0#8 ++ w)
  | .writereg a v => .command (1#2 ++ a ++ v)
  | .initpanel p => .command (2#2 ++ 0#16 ++ p)
  | .setdisplay b c => .command (3#2 ++ 0#16 ++ b ++ c)
  | .frameAddr a => .wire (Config.tagAddr ++ a)
  | .frameData v => .wire (Config.tagData ++ v)
  | .frameRaw w => .wire w

/-! ### The opcode table's numbering of its words (log 11) -/

/-- The bytes of a text the table writes as one number of `k` bytes, first character most significant. -/
def textBytes : Nat → Nat → List Byte
  | 0, _ => []
  | k + 1, w => textBytes k (w / 256) ++ [BitVec.ofNat 8 w]

/-- Pin numbers under which a table word's line operand is CS: the table gives the line no bits, and
an EXPORT word only the digits of a pin number that the spec leaves open (DESIGN CHOICE, log 11). -/
def tablePinsFrom (n : Nat) : PerLine Nat := ⟨n, n + 1, n + 2⟩

/-- A line-driver text of the table, with the control it is written to and the pins it supposes. -/
def tableText (text : List Byte) : PerLine Nat × PortItem :=
  if text = textIn ∨ text = textOut then (tablePinsFrom 0, .driver (.direction 0) text)
  else if text = textLow ∨ text = textHigh then (tablePinsFrom 0, .driver (.value 0) text)
  else (tablePinsFrom ((readDecimal text).getD 0), .driver .exportControl text)

/-- The request that a table word of `nbits` bits and number `w` stands for, with the pins it supposes
for a line-driver text: 8, 16 or 32 bits are texts, 24 bits a wire word (but for the text `out`, whose
row fixes all 24 bits), more than 32 a command word. `none` where the number has bits no word holds. -/
def tableItem (nbits w : Nat) : Option (PerLine Nat × PortItem) :=
  if w ≥ 2 ^ nbits then none
  else if nbits ≤ 8 then some (tableText (textBytes 1 w))
  else if nbits ≤ 16 then some (tableText (textBytes 2 w))
  else if nbits ≤ 24 then
    if w = 0x6F7574 then some (tableText (textBytes 3 w))
    else some (tablePinsFrom 0, .wire (BitVec.ofNat 24 w))
  else if nbits ≤ 32 then some (tableText (textBytes 4 w))
  else if w ≥ 2 ^ 34 then none
  else some (tablePinsFrom 0, .command (BitVec.ofNat 34 w))

/-- The operation the decoder reads from a word of the opcode table. -/
def decodeTableWord (nbits w : Nat) : Option Instr :=
  match tableItem nbits w with
  | none => none
  | some (pins, item) =>
    match decode pins item with
    | .ok i => some i
    | .error _ => none

end Sys2Proof
end

