-- ==== Sys2Proof/Machine/State.lean ====
section
/-! DEFINITION. The state of the machine as plain data (10_state.md), its reasons to stop, and the state
after reset (R24, R120). -/

namespace Sys2Proof.Machine

/-- No operation raises, traps or stops early, under any operand and any answer of the environment
(R105), so there is no fault: this type has no constructor. A failed attempt is logged and the machine
goes on (R107; log 21). -/
inductive Fault where
deriving DecidableEq, Repr

/-- Why a request is given no meaning. -/
inductive Refusal where
  /-- Raised by an arm of `exec` whose instruction has no meaning yet; no arm raises it. Safe: the model
  stops where the hardware goes on. -/
  | notModelled (mnemonic : String)
  /-- Raised by every operation issued while `BUSY` is true: the port is not ready and a second issuer
  has no step (R128, I9). Safe: no interleaving is given a meaning (log 19). -/
  | portNotReady
  /-- Raised by `step` on a command word whose must-be-zero field is not zero (R51, I10). Safe: no state
  changes and no event is emitted. -/
  | mustBeZero
  /-- Raised by `step` on a line-driver text that the spec does not give for its control (R52, N9).
  Safe: nothing beyond the quoted texts is given a meaning (log 12). -/
  | unknownText
  /-- Raised by `step` on a line-driver request for a pin that is none of the block's three (R30).
  Safe: the spec describes no other line (log 12). -/
  | foreignPin
deriving DecidableEq, Repr

/-- The framer's position (R17). -/
inductive Phase where
  | none
  | addr
  | data
deriving DecidableEq, Repr

/-- Where the client's part of the call chain stands (the MODEL's own field, log 9): no bring-up in
flight; attempt `k` of line set-up next (R98); the entries of `PANEL_TABLE` being issued (R95). -/
inductive Client where
  | idle
  | lineSetup (k : Fin 6)
  | panel
deriving DecidableEq, Repr

/-- The events of `TRACE` (R20). -/
inductive Event where
  | evExport (l : Line) (ok : Bool)
  | evDir (l : Line) (d : Dir) (ok : Bool)
  | evWrite (l : Line) (b : Level) (eff : Bool)
  | evDelay
deriving DecidableEq, Repr

/-- The kinds of diagnostic (R21, R106). -/
inductive DiagKind where
  | diagExport
  | diagDir
  | diagWrite
deriving DecidableEq, Repr

/-- One entry of `DIAG`: a kind and a line, no text (R21). -/
structure Diag where
  kind : DiagKind
  line : Line
deriving DecidableEq, Repr

/-- The ghost map of R31: target register index and the last value asked for, indices strictly rising.
An index that is not listed was never written. Its unit is the 16-bit register (R30, R32). -/
abbrev Memory := List (Nat × Word16)

/-- The whole state (10_state.md section 1); the fields after `diag` are the model's own. -/
structure State where
  /-- `L[l]` (R10, R11). -/
  level : PerLine Level
  /-- `OWNED[l]` (R12). -/
  owned : PerLine Bool
  /-- `DIR[l]` (R13). -/
  dir : PerLine Dir
  /-- `W`, the serializer's word latch (R14). -/
  w : Word24
  /-- `upc`, the micro-step counter; `none` is `IDLE` (R16). -/
  upc : Option (Fin 79)
  /-- `A`, the framer's address latch (R15). -/
  a : Word16
  /-- `V`, the framer's value latch (R15). -/
  v : Word16
  /-- `phase` (R17). -/
  phase : Phase
  /-- `P`, the client's packed-word latch (R15). -/
  p : Word16
  /-- `tix`, the index of the next table entry (R15). -/
  tix : Nat
  /-- `INIT_DONE` (R18). -/
  initDone : Bool
  /-- `BUSY` (R18). -/
  busy : Bool
  /-- `TRACE`, oldest first (R20). -/
  trace : List Event
  /-- `DIAG`, oldest first (R21). -/
  diag : List Diag
  /-- The client's position (log 9). -/
  client : Client
  /-- The level history `H` of R76: the triple before the first event, then one after each (log 14). -/
  history : List (PerLine Level)
  /-- The ghost map of the target registers (R31; log 13). -/
  target : Memory
  /-- The open parameters, never written (R5, R42; log 6). -/
  params : Params
  /-- The environment's next answers, `Config.ok` past the end (R22; log 1). -/
  answers : List Bool
  /-- How many attempts were answered since reset (log 1). -/
  asked : Nat
  /-- The environment's next drawn levels, `Config.draw` past the end (R22; log 2). -/
  draws : List Level
  /-- How many levels were drawn since reset (log 2). -/
  drawn : Nat
  /-- Numbers the free contents of the idle latches (R14, R15, I6; log 5). -/
  scrubbed : Nat
  /-- The requests the host will issue next, first one first (log 7). -/
  port : List PortItem
deriving DecidableEq, Repr

/-- The state after reset (R24): nothing owned, no direction set, every level a draw, the sequencer
idle, the logs empty. `W`, `A`, `V`, `P` are unspecified there and zero here (DESIGN CHOICE, log 4);
the model's own fields start empty (log 27). -/
def State.reset : State where
  level := ⟨Config.resetLevel .cs, Config.resetLevel .clk, Config.resetLevel .data⟩
  owned := ⟨false, false, false⟩
  dir := ⟨.unset, .unset, .unset⟩
  w := 0#24
  upc := none
  a := 0#16
  v := 0#16
  phase := .none
  p := 0#16
  tix := 0
  initDone := false
  busy := false
  trace := []
  diag := []
  client := .idle
  history := [⟨Config.resetLevel .cs, Config.resetLevel .clk, Config.resetLevel .data⟩]
  target := []
  params := Config.params
  answers := []
  asked := 0
  draws := []
  drawn := 0
  scrubbed := 0
  port := []

end Sys2Proof.Machine
end

