-- ==== Sys2Proof/Machine/Ops.lean ====
section
/-! DEFINITION. The shared operations: the environment's answers and draws (R22), the trace and the
diagnostics (R20, R21), what a failure does (R107, the hardware's only exceptional event: it raises
nothing, R105), the three attempts on the line driver (R60 to R62), the settle delay (R73), the idle
latches, and the ghost map (R31). -/

namespace Sys2Proof.Machine

/-! ### The environment (R22) -/

/-- The answer the environment gives to the `k`-th attempt from now on (`ok()`; free past the list). -/
def State.okAt (s : State) (k : Nat) : Bool := (s.answers[k]?).getD (Config.ok (s.asked + k))

/-- One answer has been taken. -/
def State.popOk (s : State) : State := { s with answers := s.answers.tail, asked := s.asked + 1 }

/-- The level the environment gives to the `k`-th draw from now on (`draw()`; free past the list). -/
def State.drawAt (s : State) (k : Nat) : Level := (s.draws[k]?).getD (Config.draw (s.drawn + k))

/-- One level has been drawn. -/
def State.popDraw (s : State) : State := { s with draws := s.draws.tail, drawn := s.drawn + 1 }

/-! ### Trace, diagnostics, failure -/

/-- `emit(e)` (R20); the level history gains the levels after the event (R76). -/
def State.emit (s : State) (e : Event) : State :=
  { s with trace := s.trace ++ [e], history := s.history ++ [s.level] }

/-- `diag(k, l)`: what a failed attempt leaves, and all that it leaves (R21, R107). -/
def State.logFailure (s : State) (k : DiagKind) (l : Line) : State :=
  { s with diag := s.diag ++ [⟨k, l⟩] }

/-! ### Line registers -/

/-- `OWNED[l] <- true`; nothing ever clears it (R12). -/
def State.own (s : State) (l : Line) : State := { s with owned := s.owned.set l true }

/-- `DIR[l] <- d` (R13). -/
def State.setDir (s : State) (l : Line) (d : Dir) : State := { s with dir := s.dir.set l d }

/-- `L[l] <- b` (R10). -/
def State.drive (s : State) (l : Line) (b : Level) : State := { s with level := s.level.set l b }

/-! ### Attempts on the line driver (R63: one attempt, one event, one diagnostic if it failed) -/

/-- `LineExport(l)` (R60). -/
def lineExport (l : Line) (s : State) : State :=
  let o := s.okAt 0
  let s := s.popOk
  let s := if o then s.own l else s.logFailure .diagExport l
  s.emit (.evExport l o)

/-- `LineSetDir(l, d)` (R61): on success the level is a draw. -/
def lineSetDir (l : Line) (d : Dir) (s : State) : State :=
  let ok := s.owned.get l && s.okAt 0
  let s := s.popOk
  let s := if ok then ((s.setDir l d).drive l (s.drawAt 0)).popDraw else s.logFailure .diagDir l
  s.emit (.evDir l d ok)

/-- `LineWrite(l, b)` (R62): effective on an owned line that is not an input, if the environment says
so; otherwise dropped, the level register keeping its value. -/
def lineWrite (l : Line) (b : Level) (s : State) : State :=
  let eff := s.owned.get l && s.dir.get l != .input && s.okAt 0
  let s := s.popOk
  let s := if eff then s.drive l b else s.logFailure .diagWrite l
  s.emit (.evWrite l b eff)

/-- `Delay(T_SETTLE)` (R73): an event and nothing else. -/
def settle (s : State) : State := s.emit .evDelay

/-! ### Positions -/

/-- `BUSY <- true`: an operation has been issued (R18). -/
def State.raiseBusy (s : State) : State := { s with busy := true }

/-- `BUSY <- false`: the operation in flight returns to the host (R18). -/
def returnToHost (s : State) : State := { s with busy := false }

/-- `upc <- u` (R16). -/
def State.atMicro (s : State) (u : Option (Fin 79)) : State := { s with upc := u }

/-- The client's position becomes `c` (log 9). -/
def State.atClient (s : State) (c : Client) : State := { s with client := c }

/-! ### Idle latches: unspecified once their operation has returned (R14, R15, I6; log 5) -/

/-- `W` after a transmission. -/
def State.scrubW (s : State) : State :=
  { s with w := Config.idleW s.scrubbed, scrubbed := s.scrubbed + 1 }

/-- `A` and `V` after a register write. -/
def State.scrubAV (s : State) : State :=
  { s with a := Config.idleA s.scrubbed, v := Config.idleV s.scrubbed, scrubbed := s.scrubbed + 1 }

/-- `P` after a bring-up. -/
def State.scrubP (s : State) : State :=
  { s with p := Config.idleP s.scrubbed, scrubbed := s.scrubbed + 1 }

/-! ### The ghost map of the target registers (R31, R32; log 13) -/

/-- The last value asked for at index `a`, `none` where nothing was. No operation of the machine calls
it: the hardware has no read path (R33). -/
def Memory.read : Memory → Nat → Option Word16
  | [], _ => none
  | (b, x) :: m, a => if a = b then some x else Memory.read m a

/-- The map after a write of `v` at index `a`, in canonical form. -/
def Memory.write : Memory → Nat → Word16 → Memory
  | [], a, v => [(a, v)]
  | (b, x) :: m, a, v =>
    if a < b then (a, v) :: (b, x) :: m
    else if a = b then (a, v) :: m
    else (b, x) :: Memory.write m a v

/-- The canonical form: indices strictly rising and within the 65536 of R30. Every entry differs from
what an unlisted index reads as, which is no value. -/
def Memory.wf : Memory → Bool
  | [] => true
  | [(a, _)] => decide (a < 65536)
  | (a, _) :: (b, y) :: m => decide (a < b) && Memory.wf ((b, y) :: m)

/-- The ghost map records a register write (R31 "updated by rule R32"). -/
def State.recordTarget (s : State) (a v : Word16) : State :=
  { s with target := s.target.write a.toNat v }

end Sys2Proof.Machine
end

