-- ==== Sys2Proof/Machine/Operands.lean ====
section
/-! DEFINITION. How operands become words (30_encoding.md section 2, R86), how a table entry becomes a
value (R95), and the caller's index steps (R101). -/

namespace Sys2Proof.Machine

/-- The address frame `0x700000 | address` (R47, R86). -/
def addrFrame (a : Word16) : Word24 := 0x700000#24 ||| a.setWidth 24

/-- The data frame `0x720000 | value` (R47, R86). -/
def dataFrame (v : Word16) : Word24 := 0x720000#24 ||| v.setWidth 24

/-- `(zext_16(b) << 8) | zext_16(c)`: brightness high, contrast low (R36, R48). -/
def packDisplay (b c : Byte) : Word16 := (b.setWidth 16 <<< 8) ||| c.setWidth 16

/-- The value an entry of the table writes: its constant, or the caller's word (R95). -/
def entryValue (e : EntryValue) (p : Word16) : Word16 :=
  match e with
  | .const x => x
  | .packed => p

/-- The bit of `W` at position `i`, `(w >> i) & 1` (R72). -/
def wordBit (w : Word24) (i : Nat) : Level := w.getLsbD i

/-- The order of line set-up: CS, CLK, DATA (R98). -/
def setupOrder : List Line := [.cs, .clk, .data]

/-! ### The caller's side of the brightness and contrast indices (R101; log 20) -/

/-- `up(x) = min(x + 1, 7)`. -/
def indexUp (x : Nat) : Nat := min (x + 1) 7

/-- `down(x) = max(x - 1, 0)`. -/
def indexDown (x : Nat) : Nat := max (x - 1) 0

/-- The bytes the caller hands to SETDISPLAY: `BRIGHT_LUT[x_b]`, `CONTRAST_LUT[x_c]`. -/
def displayOperands (q : Params) (xb xc : Fin 8) : Byte × Byte := (q.brightLut.get xb, q.contrastLut.get xc)

end Sys2Proof.Machine
end

