-- ==== Sys2Proof/Machine/Flags.lean ====
section
/-! DEFINITION. The block has no status flag, condition code, error flag or completion flag (R19), so no
operation computes one. The two control bits it has are `BUSY` and `INIT_DONE` (R18): this file says
what they gate. -/

namespace Sys2Proof.Machine

/-- Issue an operation at the port and run it to its return. The port is not ready while `BUSY` is true
and refuses (R108, R128); otherwise `BUSY` is true from the issue until the return (R18). -/
def issue (body : State → State) (s : State) : Host.Outcome State Fault Refusal :=
  if s.busy then .refused .portNotReady
  else .next (returnToHost (body s.raiseBusy))

/-- Whether SETDISPLAY performs line set-up: `INIT_POLICY = every_call or INIT_DONE = false` (R97). -/
def setupDue (s : State) : Bool :=
  decide (s.params.initPolicy = .everyCall) || !s.initDone

end Sys2Proof.Machine
end

