-- ==== Sys2Proof/Machine/LineDriver.lean ====
section
/-! DEFINITION. The meanings of the line-driver operations (40_gpio_line_ops.md). -/

namespace Sys2Proof.Machine

/-- EXPORT l (R60). -/
def execExport (l : Line) (s : State) : Host.Outcome State Fault Refusal :=
  issue (lineExport l) s

/-- SETDIR l, in (R61). -/
def execSetdirIn (l : Line) (s : State) : Host.Outcome State Fault Refusal :=
  issue (lineSetDir l .input) s

/-- SETDIR l, out (R61). -/
def execSetdirOut (l : Line) (s : State) : Host.Outcome State Fault Refusal :=
  issue (lineSetDir l .output) s

/-- WRLEVEL l, 0 (R62). -/
def execWrlevel0 (l : Line) (s : State) : Host.Outcome State Fault Refusal :=
  issue (lineWrite l false) s

/-- WRLEVEL l, 1 (R62). -/
def execWrlevel1 (l : Line) (s : State) : Host.Outcome State Fault Refusal :=
  issue (lineWrite l true) s

end Sys2Proof.Machine
end

