-- ==== Sys2Proof/Machine/Serializer.lean ====
section
/-! DEFINITION. The serializer (41_spi_transmit.md): the 79 micro-steps of a transmission, the operation
TRANSMIT, and the three kinds of wire word as transmissions (R45, R46, R49). -/

namespace Sys2Proof.Machine

/-- What one micro-step does at the line driver. -/
inductive MicroAction where
  | write (l : Line) (b : Level)
  | delay
deriving DecidableEq, Repr

/-- The table of R71: the action of micro-step `u` of a transmission of `w`. Micro-steps `3 + 3k`,
`4 + 3k`, `5 + 3k` send bit `23 - k`: clock low, data, clock high (R72). -/
def microAction (w : Word24) (u : Nat) : MicroAction :=
  match u with
  | 0 => .write .data false
  | 1 => .write .clk false
  | 2 => .write .cs false
  | 75 => .delay
  | 76 => .write .data false
  | 77 => .write .clk false
  | 78 => .write .cs true
  | u =>
    match u % 3 with
    | 0 => .write .clk false
    | 1 => .write .data (wordBit w (23 - (u - 4) / 3))
    | _ => .write .clk true

/-- Perform a micro-step's action. -/
def perform (m : MicroAction) (s : State) : State :=
  match m with
  | .write l b => lineWrite l b s
  | .delay => settle s

/-- `upc` after micro-step `u`: one more, or `IDLE` after 78 (R16). -/
def nextUpc (u : Fin 79) : Option (Fin 79) :=
  if h : u.val + 1 < 79 then some ⟨u.val + 1, h⟩ else none

/-- One micro-step of the transmission in flight. -/
def microStep (s : State) : State :=
  match s.upc with
  | none => s
  | some u => (perform (microAction s.w u.val) s).atMicro (nextUpc u)

/-- `W <- w ; upc <- 0` (R70). -/
def beginSend (w : Word24) (s : State) : State := { s with w := w, upc := some 0 }

/-- A transmission of `w` from its issue to its return (R70, R71): all 79 micro-steps, whatever the
environment answers (R79); `W` is unspecified afterwards (R14). -/
def sendWord (w : Word24) (s : State) : State := (microStep^[79] (beginSend w s)).scrubW

/-- TRANSMIT w (R70). -/
def execTransmit (w : Word24) (s : State) : Host.Outcome State Fault Refusal :=
  issue (sendWord w) s

/-- FRAME.ADDR (R46): the address frame goes on the wire, as a bare TRANSMIT sends it (R44, R133;
DEDUCED, log 10). -/
def execFrameAddr (a : Word16) (s : State) : Host.Outcome State Fault Refusal :=
  issue (sendWord (addrFrame a)) s

/-- FRAME.DATA (R46): the data frame goes on the wire, as a bare TRANSMIT sends it (R44, R133; DEDUCED,
log 10). -/
def execFrameData (v : Word16) (s : State) : Host.Outcome State Fault Refusal :=
  issue (sendWord (dataFrame v)) s

/-- FRAME.RAW (R45, R49): the word goes on the wire as it is (R44; DEDUCED, log 10). -/
def execFrameRaw (w : Word24) (s : State) : Host.Outcome State Fault Refusal :=
  issue (sendWord w) s

end Sys2Proof.Machine
end

