-- ==== Sys2Proof/Machine/Framer.lean ====
section
/-! DEFINITION. The framer (42_register_write.md). -/

namespace Sys2Proof.Machine

/-- `A <- a ; V <- v ; phase <- ADDR` (R85). -/
def latchWrite (a v : Word16) (s : State) : State := { s with a := a, v := v, phase := .addr }

/-- `phase <- DATA` (R85). -/
def enterData (s : State) : State := { s with phase := .data }

/-- `phase <- NONE` (R85): the register write has been performed, the ghost map records it (R31), and
its latches are unspecified from here on (R15). -/
def finishWrite (s : State) : State := { (s.recordTarget s.a s.v).scrubAV with phase := .none }

/-- A register write from its issue to its return (R85): the address frame, then the data frame,
whatever became of the first (R87, R92). -/
def writeReg (a v : Word16) (s : State) : State :=
  let s := latchWrite a v s
  let s := sendWord (addrFrame s.a) s
  let s := enterData s
  let s := sendWord (dataFrame s.v) s
  finishWrite s

/-- WRITEREG a, v (R85), which is the only store, `MemWrite(a, 2, v)` (R32). -/
def execWritereg (a v : Word16) (s : State) : Host.Outcome State Fault Refusal :=
  issue (writeReg a v) s

end Sys2Proof.Machine
end

