-- ==== Sys2Proof/Machine/PanelClient.lean ====
section
/-! DEFINITION. The client (43_panel_client.md). -/

namespace Sys2Proof.Machine

/-- `P <- p`, and the first entry is next (R95). -/
def latchPanel (p : Word16) (s : State) : State := { s with p := p, client := .panel, tix := 0 }

/-- The next entry is the one after (R95). -/
def advanceTix (s : State) : State := { s with tix := s.tix + 1 }

/-- `tix <- 0` (R95): the bring-up has returned and `P` is unspecified from here on (R15). -/
def finishPanel (s : State) : State := { s.scrubP with tix := 0, client := .idle }

/-- One register write per entry, in order, none skipped, none repeated (R95, R96). -/
def runEntries : List PanelEntry → State → State
  | [], s => s
  | e :: es, s => runEntries es (advanceTix (writeReg e.reg (entryValue e.value s.p) s))

/-- A bring-up from its issue to its return (R95). -/
def bringUp (p : Word16) (s : State) : State :=
  finishPanel (runEntries s.params.panelTable (latchPanel p s))

/-- `LineSetup()` (R98): for CS, CLK, DATA, export and then direction `out`; six attempts, made whether
or not earlier ones failed. -/
def lineSetup (s : State) : State :=
  setupOrder.foldl (fun s l => lineSetDir l .output (lineExport l s)) s

/-- `INIT_DONE <- true` (R97). -/
def markInit (s : State) : State := { s with initDone := true }

/-- A SETDISPLAY from its issue to its return (R97). -/
def displayBody (b c : Byte) (s : State) : State :=
  let s := if setupDue s then markInit (lineSetup s) else s
  bringUp (packDisplay b c) s

/-- INITPANEL p (R95). -/
def execInitpanel (p : Word16) (s : State) : Host.Outcome State Fault Refusal :=
  issue (bringUp p) s

/-- SETDISPLAY b, c (R97). -/
def execSetdisplay (b c : Byte) (s : State) : Host.Outcome State Fault Refusal :=
  issue (displayBody b c) s

end Sys2Proof.Machine
end

