-- ==== Sys2Proof/Machine/Dispatch.lean ====
section
/-! DEFINITION. One arm per constructor of Instr. -/

namespace Sys2Proof.Machine

def exec (i : Instr) (s : State) : Host.Outcome State Fault Refusal :=
  match i with
  | .exportLine l => Sys2Proof.Machine.execExport l s
  | .setdirIn l => Sys2Proof.Machine.execSetdirIn l s
  | .setdirOut l => Sys2Proof.Machine.execSetdirOut l s
  | .wrlevel0 l => Sys2Proof.Machine.execWrlevel0 l s
  | .wrlevel1 l => Sys2Proof.Machine.execWrlevel1 l s
  | .transmit w => Sys2Proof.Machine.execTransmit w s
  | .writereg a v => Sys2Proof.Machine.execWritereg a v s
  | .initpanel p => Sys2Proof.Machine.execInitpanel p s
  | .setdisplay b c => Sys2Proof.Machine.execSetdisplay b c s
  | .frameAddr a => Sys2Proof.Machine.execFrameAddr a s
  | .frameData v => Sys2Proof.Machine.execFrameData v s
  | .frameRaw w => Sys2Proof.Machine.execFrameRaw w s

end Sys2Proof.Machine
end

