-- ==== Sys2Proof/Machine/Port.lean ====
section
/-! DEFINITION. The requests of the host: reading the next one, and placing a word of the opcode table as
the next one (logs 7, 11). -/

namespace Sys2Proof.Machine

/-- The refusal of a request that spells no operation. -/
def refusalOf : DecodeError → Refusal
  | .mustBeZero => .mustBeZero
  | .unknownText => .unknownText
  | .foreignPin => .foreignPin

/-- The request list becomes `rest`: its first request has been taken (log 7). -/
def State.withPort (s : State) (rest : List PortItem) : State := { s with port := rest }

/-- The parameters' pins become `pins` (log 11). -/
def State.withPins (s : State) (pins : PerLine Nat) : State :=
  { s with params := { s.params with pins := pins } }

/-- The next request, decoded, with the state that has taken it; `none` when the host asks for nothing. -/
def nextRequest (s : State) : Option (Except DecodeError Instr × State) :=
  match s.port with
  | [] => none
  | item :: rest => some (decode s.params.pins item, s.withPort rest)

/-- Place a request as the next one. -/
def pushRequest (item : PortItem) (s : State) : State := s.withPort (item :: s.port)

/-- Place a table word as the next request. For a line-driver text, whose line the spec names by an open
pin number, the pins are set to those the table word supposes (log 11). -/
def placeTableWord (nbits w : Nat) (s : State) : State :=
  match tableItem nbits w with
  | none => s
  | some (pins, .driver path text) =>
    pushRequest (.driver path text) (s.withPins pins)
  | some (_, item) => pushRequest item s

end Sys2Proof.Machine
end

