-- ==== Sys2Proof/Machine/Sequencer.lean ====
section
/-! DEFINITION. The sequencer at its finest grain, one line-driver attempt or delay at a time (R16, R17,
R88, decision D3): how an operation is put in flight, and what the next micro-step of an operation in
flight does. `exec` runs the same operations whole; that the two agree is a statement, not a definition
(log 8). -/

namespace Sys2Proof.Machine

/-- A register write is put in flight: its latches are loaded, the address phase begins (R85, R88). -/
def beginWrite (a v : Word16) (s : State) : State :=
  let s := latchWrite a v s
  beginSend (addrFrame s.a) s

/-- The bring-up goes on: the register write of entry `tix`, or the return after the last (R95). -/
def loadEntry (s : State) : State :=
  match s.params.panelTable[s.tix]? with
  | some e => beginWrite e.reg (entryValue e.value s.p) s
  | none => returnToHost (finishPanel s)

/-- A register write has returned to its caller: the next entry, or the host (R102). -/
def afterWrite (s : State) : State :=
  match s.client with
  | .panel => loadEntry (advanceTix s)
  | _ => returnToHost s

/-- A transmission has returned to its caller: `NONE -> ADDR -> DATA -> NONE` is the framer's only order
(R17); a bare transmission returns to the host (R25). -/
def afterSend (s : State) : State :=
  match s.phase with
  | .none => returnToHost s
  | .addr => let s := enterData s; beginSend (dataFrame s.v) s
  | .data => afterWrite (finishWrite s)

/-- Attempt `k` of line set-up: export and direction `out` in turn for CS, CLK, DATA (R98). -/
def setupAttempt (k : Fin 6) (s : State) : State :=
  match k with
  | 0 => lineExport .cs s
  | 1 => lineSetDir .cs .output s
  | 2 => lineExport .clk s
  | 3 => lineSetDir .clk .output s
  | 4 => lineExport .data s
  | 5 => lineSetDir .data .output s

/-- The client's position after attempt `k` of line set-up: the next attempt, or the bring-up (R97). -/
def afterSetup (k : Fin 6) (s : State) : State :=
  if h : k.val + 1 < 6 then s.atClient (.lineSetup ⟨k.val + 1, h⟩)
  else loadEntry ((markInit s).atClient .panel)

/-- One micro-step of the operation in flight (R16, R17, R102). A busy state with nothing in flight,
which no operation leaves, returns (log 23). -/
def seqStep (s : State) : State :=
  match s.client with
  | .lineSetup k => afterSetup k (setupAttempt k s)
  | _ =>
    match s.upc with
    | none => returnToHost s
    | some _ =>
      let s := microStep s
      match s.upc with
      | none => afterSend s.scrubW
      | some _ => s

/-- Put an operation in flight: `BUSY` rises and the operands are copied into the latches (R18, R42).
A line-driver operation is one attempt and has no position of its own: it is performed here whole. -/
def start (i : Instr) (s : State) : State :=
  let s := s.raiseBusy
  match i with
  | .exportLine l => returnToHost (lineExport l s)
  | .setdirIn l => returnToHost (lineSetDir l .input s)
  | .setdirOut l => returnToHost (lineSetDir l .output s)
  | .wrlevel0 l => returnToHost (lineWrite l false s)
  | .wrlevel1 l => returnToHost (lineWrite l true s)
  | .transmit w => beginSend w s
  | .writereg a v => beginWrite a v s
  | .initpanel p => loadEntry (latchPanel p s)
  | .setdisplay b c =>
    if setupDue s then (latchPanel (packDisplay b c) s).atClient (.lineSetup 0)
    else loadEntry (latchPanel (packDisplay b c) s)
  | .frameAddr a => beginSend (addrFrame a) s
  | .frameData v => beginSend (dataFrame v) s
  | .frameRaw w => beginSend w s

/-- The micro-steps an operation takes once it is in flight (R137): 79 for a transmission, 158 for a
register write, 158 for each entry of the table, 6 more for line set-up when it runs. -/
def microSteps (i : Instr) (s : State) : Nat :=
  let n := s.params.panelTable.length
  match i with
  | .exportLine _ => 0
  | .setdirIn _ => 0
  | .setdirOut _ => 0
  | .wrlevel0 _ => 0
  | .wrlevel1 _ => 0
  | .transmit _ => 79
  | .writereg _ _ => 158
  | .initpanel _ => 158 * n
  | .setdisplay _ _ => (if setupDue s then 6 else 0) + 158 * n
  | .frameAddr _ => 79
  | .frameData _ => 79
  | .frameRaw _ => 79

end Sys2Proof.Machine
end

