-- ==== Sys2Proof/Machine/Step.lean ====
section
/-! DEFINITION. One step of the machine. -/

namespace Sys2Proof.Machine

/-- One step. While an operation is in flight the block performs its next micro-step (R16) and takes no
request (R128). When the port is ready the next request is decoded and run to its return, the host being
blocked meanwhile (R38, R108); a request that spells no operation is refused (R51); with no request the
block waits (R115, R120). -/
def step (s : State) : Host.Outcome State Fault Refusal :=
  if s.busy then .next (seqStep s)
  else
    match nextRequest s with
    | none => .next s
    | some (.ok i, s') => exec i s'
    | some (.error e, _) => .refused (refusalOf e)

/-- `s` with a word of the opcode table placed as the request that the next step takes (logs 7, 11). -/
def State.withFetchWord (s : State) (nbits w : Nat) : State := placeTableWord nbits w s

end Sys2Proof.Machine
end

