-- ==== Sys2Proof/Machine/Observer.lean ====
section
/-! DEFINITION. The observer of the three lines (R76): a measuring device that stands for the receiver
the source expects, not a model of the controller. -/

namespace Sys2Proof.Machine

/-- Clock 0 to 1 while chip-select is low: the receiver samples. -/
def sampledEdge (h h' : PerLine Level) : Bool := !h.clk && h'.clk && !h'.cs

/-- `Sample(H)`: DATA at each sampled edge, in order. -/
def sampleWire : List (PerLine Level) → List Level
  | [] => []
  | [_] => []
  | h :: h' :: rest => (if sampledEdge h h' then [h'.data] else []) ++ sampleWire (h' :: rest)

/-- `Frames(H)` with `cur` the bits of the window so far. -/
def framesFrom (cur : List Level) : List (PerLine Level) → List (List Level)
  | [] => []
  | [_] => []
  | h :: h' :: rest =>
    let cur := if h.cs && !h'.cs then [] else cur
    let cur := if sampledEdge h h' then cur ++ [h'.data] else cur
    if !h.cs && h'.cs then cur :: framesFrom [] (h' :: rest) else framesFrom cur (h' :: rest)

/-- `Frames(H)`: the closed chip-select windows. -/
def wireFrames (h : List (PerLine Level)) : List (List Level) := framesFrom [] h

/-- `bits24(x)`: `x[23], ..., x[0]` (R91). -/
def bits24 (x : Word24) : List Level := (List.range 24).map fun k => x.getLsbD (23 - k)

/-- The level history from state `s` on, as the later state `t` holds it: the triple at `s`, then one
after each event since (R76; log 14). -/
def historySince (s t : State) : List (PerLine Level) := s.level :: t.history.drop s.history.length

end Sys2Proof.Machine
end

