-- ==== Sys2Proof/Safety.lean ====
section
/-! DEFINITION. The words claims are stated in: the premises the spec names (R22 `AllEff`, R131
`QuietConfig`), the end of a run (R7), the invariant of the machine (R21, R25, R76), and what a run of
operations put on the wire. -/

namespace Sys2Proof.Machine

/-! ### Premises -/

/-- Every line is owned and none is an input: a level write takes effect if the environment says so
(R62, R122). -/
def LinesReady (s : State) : Prop := ∀ l : Line, s.owned.get l = true ∧ s.dir.get l ≠ .input

/-- No line is owned: the degraded state of R12. -/
def NoneOwned (s : State) : Prop := ∀ l : Line, s.owned.get l = false

/-- The environment answers the next `n` attempts with success. -/
def AllOk (s : State) (n : Nat) : Prop := ∀ k, k < n → s.okAt k = true

/-- The environment fails attempt `j` from now and no other of the next `n`. -/
def OnlyFails (s : State) (j n : Nat) : Prop := ∀ k, k < n → s.okAt k = decide (k ≠ j)

/-- `AllEff` of R22 for the next `n` level writes: they are all effective. -/
def AllEff (s : State) (n : Nat) : Prop := LinesReady s ∧ AllOk s n

/-- `QuietConfig` of R131 between two states: the levels drawn meanwhile make no rising clock edge under
a low chip-select. -/
def QuietConfig (s t : State) : Prop := sampleWire (historySince s t) = []

/-! ### Positions -/

/-- The port is ready and the sequencer is idle (R7, R25). -/
def SeqIdle (s : State) : Prop :=
  s.busy = false ∧ s.upc = none ∧ s.phase = .none ∧ s.client = .idle ∧ s.tix = 0

/-- The end of a run (R7): every operation has been issued and has returned. -/
def RunEnded (s : State) : Prop := s.port = [] ∧ SeqIdle s

/-- The sequencer's position fits the operation in flight (R16, R17, R18, R25). -/
def Coherent (s : State) : Prop :=
  match s.busy, s.client with
  | false, _ => SeqIdle s
  | true, .idle => s.upc ≠ none ∧ s.tix = 0
  | true, .lineSetup _ => s.upc = none ∧ s.phase = .none ∧ s.tix = 0
  | true, .panel =>
    s.upc ≠ none ∧ s.phase ≠ .none ∧ s.tix < s.params.panelTable.length

/-! ### Events -/

/-- The diagnostic of a failed attempt (R106). -/
def Event.failure : Event → Option Diag
  | .evExport l ok => if ok then none else some ⟨.diagExport, l⟩
  | .evDir l _ ok => if ok then none else some ⟨.diagDir, l⟩
  | .evWrite l _ eff => if eff then none else some ⟨.diagWrite, l⟩
  | .evDelay => none

/-- What a transmission's event attempted, whatever became of it. -/
def Event.action : Event → Option MicroAction
  | .evWrite l b _ => some (.write l b)
  | .evDelay => some .delay
  | .evExport _ _ => none
  | .evDir _ _ _ => none

/-- The level-write attempts on line `l` among some events, in order, with the level written. -/
def writesOn (l : Line) (es : List Event) : List Level :=
  es.filterMap fun
    | .evWrite l' b _ => if l' = l then some b else none
    | _ => none

/-- How many of some events are the settle delay. -/
def delaysIn (es : List Event) : Nat := es.count .evDelay

/-- The events appended between two states. -/
def eventsSince (s t : State) : List Event := t.trace.drop s.trace.length

/-- The diagnostics appended between two states. -/
def diagsSince (s t : State) : List Diag := t.diag.drop s.diag.length

/-- Step 1 of a transmission (R70). -/
def openingWrites : List MicroAction := [.write .data false, .write .clk false, .write .cs false]

/-- Step 2 for bit `23 - k`: clock low, data, clock high (R72). -/
def bitWrites (w : Word24) (k : Nat) : List MicroAction :=
  [.write .clk false, .write .data (w.getLsbD (23 - k)), .write .clk true]

/-- Step 3 after the delay (R70). -/
def closingWrites : List MicroAction := [.write .data false, .write .clk false, .write .cs true]

/-- The pseudocode of R70 as one list: step 1, the 24 bits, the delay, the closing writes. -/
def transmitScript (w : Word24) : List MicroAction :=
  openingWrites ++ (List.range 24).flatMap (bitWrites w) ++ .delay :: closingWrites

/-- Perform a list of actions in order. -/
def runActions (ms : List MicroAction) (s : State) : State := ms.foldl (fun s m => perform m s) s

/-! ### Programs -/

/-- A program (00_scope.md section 1): operations issued one after another, each once the one before has
returned. -/
def execAll : List Instr → State → Host.Outcome State Fault Refusal
  | [], s => .next s
  | i :: is, s =>
    match exec i s with
    | .next t => execAll is t
    | .fault f => .fault f
    | .refused r => .refused r

/-- Some steps of the machine, one after another. -/
def runSteps : Nat → State → Host.Outcome State Fault Refusal
  | 0, s => .next s
  | n + 1, s =>
    match step s with
    | .next t => runSteps n t
    | .fault f => .fault f
    | .refused r => .refused r

/-- The state an outcome answers, `d` where it answers none. -/
def stateAfter (d : State) : Host.Outcome State Fault Refusal → State
  | .next t => t
  | .fault _ => d
  | .refused _ => d

/-- The two states agree on everything an operation does at the line driver: the line registers, the
trace, the diagnostics, the level history, and what was taken from the environment (R44). -/
def SameDriver (s t : State) : Prop :=
  s.level = t.level ∧ s.owned = t.owned ∧ s.dir = t.dir ∧ s.trace = t.trace ∧ s.diag = t.diag ∧
  s.history = t.history ∧ s.answers = t.answers ∧ s.asked = t.asked ∧ s.draws = t.draws ∧
  s.drawn = t.drawn

/-- The register writes a bring-up expands to (R55, R95). -/
def tableWrites (q : Params) (p : Word16) : List Instr :=
  q.panelTable.map fun e => .writereg e.reg (entryValue e.value p)

/-- The line-driver operations line set-up expands to (R55, R98). -/
def setupOps : List Instr :=
  [.exportLine .cs, .setdirOut .cs, .exportLine .clk, .setdirOut .clk, .exportLine .data, .setdirOut .data]

/-- The frames a bring-up puts on the wire (R99). -/
def tableFrames (q : Params) (p : Word16) : List (List Level) :=
  q.panelTable.flatMap fun e =>
    [bits24 (Config.tagAddr ++ e.reg), bits24 (Config.tagData ++ entryValue e.value p)]

/-! ### The invariant -/

/-- What every step keeps: the ghost map's canonical form; `DIAG` holds exactly one entry per event whose
flag is false (R21); the level history ends in the present levels with one triple per event (R76); the
sequencer's position fits the operation in flight (R25). -/
structure Inv (s : State) : Prop where
  target_wf : s.target.wf = true
  diag_eq : s.diag = s.trace.filterMap Event.failure
  history_last : s.history.getLast? = some s.level
  history_length : s.history.length = s.trace.length + 1
  coherent : Coherent s

end Sys2Proof.Machine
end

