-- ==== Sys2Proof/Certificates/Slice0/Obligations.lean ====
section
/-! DEFINITION. The statements for the provers, from the numbered rules of spec/. None of them fixes a
parameter or a free value: each holds for every `params`, every answer and every draw. -/

open Sys2Proof Sys2Proof.Machine

/-! ### Encodings -/

/-- Words of the spec's tables (V6, V7, R52) decode to the operation they stand for. -/
def Obligations.TabulatedWordsDecode : Prop :=
  ∀ pins : PerLine Nat,
    decode pins (.command 0x000700001#34) = .ok (.transmit 0x700001#24) ∧
    decode pins (.command 0x100011234#34) = .ok (.writereg 0x0001#16 0x1234#16) ∧
    decode pins (.command 0x200008040#34) = .ok (.initpanel 0x8040#16) ∧
    decode pins (.command 0x300001234#34) = .ok (.setdisplay 0x12#8 0x34#8) ∧
    decode pins (.wire 0x70FFFF#24) = .ok (.frameAddr 0xFFFF#16) ∧
    decode pins (.wire 0x721234#24) = .ok (.frameData 0x1234#16) ∧
    decode pins (.wire 0xF20000#24) = .ok (.frameRaw 0xF20000#24) ∧
    decode ⟨7, 42, 130⟩ (.driver .exportControl [0x34#8, 0x32#8]) = .ok (.exportLine .clk) ∧
    decode ⟨7, 42, 130⟩ (.driver (.direction 130) [0x6F#8, 0x75#8, 0x74#8]) = .ok (.setdirOut .data) ∧
    decode ⟨7, 42, 130⟩ (.driver (.value 7) [0x31#8]) = .ok (.wrlevel1 .cs)

/-- Decoding an encoded well-formed operation gives it back, every operand at every value. -/
def Obligations.DecodeOfEncode : Prop :=
  ∀ (pins : PerLine Nat) (i : Instr), pinsDistinct pins = true → i.wf = true →
    decode pins (encode pins i) = .ok i

/-- Each request that decodes is the one spelling of its operation, and the operation is well formed. -/
def Obligations.EncodeOfDecode : Prop :=
  ∀ (pins : PerLine Nat) (item : PortItem) (i : Instr), decode pins item = .ok i →
    i.wf = true ∧ encode pins i = item

/-- R51: a command word whose must-be-zero field is not zero spells no operation and the port refuses
it; every other command word spells one. -/
def Obligations.MustBeZeroWordsRefused : Prop :=
  ∀ c : Cmd34,
    let bad := (cmdOpcode c = 0#2 ∧ c.extractLsb' 24 8 ≠ 0#8) ∨
      ((cmdOpcode c = 2#2 ∨ cmdOpcode c = 3#2) ∧ c.extractLsb' 16 16 ≠ 0#16)
    (bad → ∀ (s : State) (rest : List PortItem), s.busy = false → s.port = .command c :: rest →
      step s = .refused .mustBeZero) ∧
    (¬ bad → ∃ i, ∀ pins, decode pins (.command c) = .ok i)

/-- R49: a wire word is classified by its top byte, `0x70`, then `0x72`, then any other; the
classification is total; and TRANSMIT treats no word as illegal. -/
def Obligations.FrameClassification : Prop :=
  ∀ (pins : PerLine Nat) (f : Word24),
    decode pins (.wire f) =
      .ok (if f.extractLsb' 16 8 = 0x70#8 then .frameAddr (f.extractLsb' 0 16)
        else if f.extractLsb' 16 8 = 0x72#8 then .frameData (f.extractLsb' 0 16)
        else .frameRaw f) ∧
    ∀ s : State, s.busy = false → ∃ t, exec (.transmit f) s = .next t

/-- R47: the frames are the concatenations `{0x70, a}` and `{0x72, v}`, equally the sums. -/
def Obligations.FramesAreConcatenations : Prop :=
  ∀ x : Word16,
    addrFrame x = 0x70#8 ++ x ∧ addrFrame x = 0x700000#24 + x.setWidth 24 ∧
    dataFrame x = 0x72#8 ++ x ∧ dataFrame x = 0x720000#24 + x.setWidth 24

/-- Right after the issue of SETDISPLAY `P` holds `{brightness, contrast}` (packing: R48, R36). That `P`
holds it from the issue on, before line set-up, is the model's choice (log 9). -/
def Obligations.DisplayBytesArePacked : Prop :=
  ∀ (b c : Byte) (s : State), s.busy = false → s.params.panelTable ≠ [] →
    (start (.setdisplay b c) s).p = b ++ c ∧
    packDisplay b c = b ++ c ∧ packDisplay b c = (b.setWidth 16 <<< 8) ||| c.setWidth 16

/-- The path and the text of each line-driver operation (R52). That a character is its ASCII code is
PRESUMED (log 22): the spec takes the codes of the texts from general knowledge and gives none for the
paths. -/
def Obligations.DriverTextsAsTabulated : Prop :=
  ∀ (pins : PerLine Nat) (l : Line),
    let gpioRoot := ascii ['/', 's', 'y', 's', '/', 'c', 'l', 'a', 's', 's', '/', 'g', 'p', 'i', 'o', '/']
    encode pins (.exportLine l) = .driver .exportControl (decimal (pins.get l)) ∧
    encode pins (.setdirIn l) = .driver (.direction (pins.get l)) (ascii ['i', 'n']) ∧
    encode pins (.setdirOut l) = .driver (.direction (pins.get l)) (ascii ['o', 'u', 't']) ∧
    encode pins (.wrlevel0 l) = .driver (.value (pins.get l)) (ascii ['0']) ∧
    encode pins (.wrlevel1 l) = .driver (.value (pins.get l)) (ascii ['1']) ∧
    readDecimal (decimal (pins.get l)) = some (pins.get l) ∧
    DriverPath.exportControl.text = gpioRoot ++ ascii ['e', 'x', 'p', 'o', 'r', 't'] ∧
    (DriverPath.direction (pins.get l)).text = gpioRoot ++ ascii ['g', 'p', 'i', 'o'] ++
      decimal (pins.get l) ++ ascii ['/', 'd', 'i', 'r', 'e', 'c', 't', 'i', 'o', 'n'] ∧
    (DriverPath.value (pins.get l)).text = gpioRoot ++ ascii ['g', 'p', 'i', 'o'] ++
      decimal (pins.get l) ++ ascii ['/', 'v', 'a', 'l', 'u', 'e']

/-! ### The line driver -/

/-- R60: EXPORT makes one attempt; success takes ownership, failure is logged; nothing else changes. -/
def Obligations.ExportOutcome : Prop :=
  ∀ (l : Line) (s : State), s.busy = false →
    exec (.exportLine l) s = .next { s with
      owned := if s.okAt 0 then s.owned.set l true else s.owned
      diag := if s.okAt 0 then s.diag else s.diag ++ [⟨.diagExport, l⟩]
      trace := s.trace ++ [.evExport l (s.okAt 0)]
      history := s.history ++ [s.level]
      answers := s.answers.tail
      asked := s.asked + 1 }

/-- R61: SETDIR succeeds on an owned line if the environment says so; then the direction is set and the
level is a draw; otherwise the failure is logged and both keep their value. Both forms. -/
def Obligations.SetdirOutcome : Prop :=
  ∀ (l : Line) (s : State) (i : Instr) (d : Dir), s.busy = false →
    (i = .setdirIn l ∧ d = .input ∨ i = .setdirOut l ∧ d = .output) →
    let ok := s.owned.get l && s.okAt 0
    let level := if ok then s.level.set l (s.drawAt 0) else s.level
    exec i s = .next { s with
      dir := if ok then s.dir.set l d else s.dir
      level := level
      draws := if ok then s.draws.tail else s.draws
      drawn := if ok then s.drawn + 1 else s.drawn
      diag := if ok then s.diag else s.diag ++ [⟨.diagDir, l⟩]
      trace := s.trace ++ [.evDir l d ok]
      history := s.history ++ [level]
      answers := s.answers.tail
      asked := s.asked + 1 }

/-- R62: WRLEVEL is effective on an owned line whose direction is not `in`, if the environment says so;
otherwise it is dropped, logged, and the level keeps its value. Both forms. -/
def Obligations.WrlevelOutcome : Prop :=
  ∀ (l : Line) (s : State) (i : Instr) (b : Level), s.busy = false →
    (i = .wrlevel0 l ∧ b = false ∨ i = .wrlevel1 l ∧ b = true) →
    let eff := s.owned.get l && s.dir.get l != .input && s.okAt 0
    let level := if eff then s.level.set l b else s.level
    exec i s = .next { s with
      level := level
      diag := if eff then s.diag else s.diag ++ [⟨.diagWrite, l⟩]
      trace := s.trace ++ [.evWrite l b eff]
      history := s.history ++ [level]
      answers := s.answers.tail
      asked := s.asked + 1 }

/-- R63: each line-driver operation makes exactly one attempt, appends exactly one event, and appends
exactly one diagnostic if and only if the attempt failed. -/
def Obligations.LineOpsMakeOneAttempt : Prop :=
  ∀ (l : Line) (s : State) (i : Instr), s.busy = false →
    i ∈ [.exportLine l, .setdirIn l, .setdirOut l, .wrlevel0 l, .wrlevel1 l] →
    ∃ t e, exec i s = .next t ∧ t.asked = s.asked + 1 ∧ t.trace = s.trace ++ [e] ∧
      t.diag = s.diag ++ e.failure.toList

/-- R12: ownership of a line is taken by a successful export of it and by nothing else, no step takes it
away, and while a line is not owned every level write and direction set on it is dropped. -/
def Obligations.OwnershipComesFromExport : Prop :=
  ∀ (s t : State) (l : Line), step s = .next t →
    (t.owned.get l = true ↔ s.owned.get l = true ∨ .evExport l true ∈ eventsSince s t) ∧
    (t.owned.get l = false →
      (∀ b eff, .evWrite l b eff ∈ eventsSince s t → eff = false) ∧
      ∀ d ok, .evDir l d ok ∈ eventsSince s t → ok = false)

/-- R11: in any step, a line's level changes only by an effective level write to that line or a
successful direction set of it. -/
def Obligations.LevelsChangeInTwoWays : Prop :=
  ∀ (s t : State) (l : Line), step s = .next t → t.level.get l ≠ s.level.get l →
    (∃ b, .evWrite l b true ∈ eventsSince s t) ∨ (∃ d, .evDir l d true ∈ eventsSince s t)

/-- R20, R21: no step removes or rewrites an event or a diagnostic. -/
def Obligations.LogsOnlyGrow : Prop :=
  ∀ s t : State, step s = .next t → s.trace <+: t.trace ∧ s.diag <+: t.diag ∧ s.history <+: t.history

/-! ### The serializer -/

/-- R71: a transmission is exactly 79 micro-steps, numbered by `upc` from 0 to 78: at position `k` the
first `k` actions of the table have been performed in order, and after the last the operation has
returned; for every word and every answer. -/
def Obligations.TransmitPerformsTheTable : Prop :=
  ∀ (w : Word24) (s : State), SeqIdle s →
    (transmitScript w).length = 79 ∧
    (∀ (k : Nat) (h : k < 79),
      let t := seqStep^[k] (start (.transmit w) s)
      t.upc = some ⟨k, h⟩ ∧ t.busy = true ∧ t.w = w ∧ t.trace = s.trace ++ eventsSince s t ∧
        (eventsSince s t).map Event.action = ((transmitScript w).take k).map some) ∧
    ∃ t, exec (.transmit w) s = .next t ∧ t = seqStep^[79] (start (.transmit w) s) ∧ SeqIdle t ∧
      t.trace = s.trace ++ eventsSince s t ∧
      (eventsSince s t).map Event.action = (transmitScript w).map some

/-- The three kinds of wire word put on the wire exactly what a bare TRANSMIT of the word does. The
model's choice (log 10, DEDUCED from R44 and R45); the words are those of R46. -/
def Obligations.FramesRunAsTransmissions : Prop :=
  ∀ s : State, s.busy = false →
    (∀ a, ∃ t, exec (.frameAddr a) s = .next t ∧ exec (.transmit (0x70#8 ++ a)) s = .next t ∧
      (eventsSince s t).map Event.action = (transmitScript (0x70#8 ++ a)).map some) ∧
    (∀ v, ∃ t, exec (.frameData v) s = .next t ∧ exec (.transmit (0x72#8 ++ v)) s = .next t ∧
      (eventsSince s t).map Event.action = (transmitScript (0x72#8 ++ v)).map some) ∧
    (∀ w, ∃ t, exec (.frameRaw w) s = .next t ∧ exec (.transmit w) s = .next t ∧
      (eventsSince s t).map Event.action = (transmitScript w).map some)

/-- R75, which the spec marks as derived from R71: the number of attempts a transmission makes on each
line, whatever the word and the answers. -/
def Obligations.TransmitAttemptCounts : Prop :=
  ∀ (w : Word24) (s : State), s.busy = false →
    ∃ t, exec (.transmit w) s = .next t ∧
      let es := eventsSince s t
      es.length = 79 ∧ (writesOn .cs es).length = 2 ∧ (writesOn .clk es).length = 50 ∧
      (writesOn .data es).length = 26 ∧ delaysIn es = 1 ∧
      (writesOn .clk es).count true = 24 ∧ (writesOn .clk es).count false = 26

/-- What a transmission leaves unchanged, for the bare TRANSMIT and the three kinds of wire word. `W` is
unspecified afterwards (R14) and is not mentioned; a line's level changes only as the events say (see
`LevelsChangeInTwoWays`). -/
def Obligations.TransmitFrame : Prop :=
  ∀ (w : Word24) (i : Instr) (s : State), s.busy = false →
    (i = .transmit w ∨ i = .frameRaw w ∨ (∃ a, i = .frameAddr a) ∨ ∃ v, i = .frameData v) →
    ∃ t, exec i s = .next t ∧
      t.owned = s.owned ∧ t.dir = s.dir ∧ t.upc = none ∧ t.a = s.a ∧ t.v = s.v ∧
      t.phase = s.phase ∧ t.p = s.p ∧ t.tix = s.tix ∧ t.initDone = s.initDone ∧ t.busy = false ∧
      t.client = s.client ∧ t.params = s.params ∧ t.draws = s.draws ∧ t.drawn = s.drawn ∧
      t.port = s.port ∧ t.answers = s.answers.drop 78 ∧ t.asked = s.asked + 78 ∧
      ∀ a, t.target.read a = s.target.read a

/-- R77, which the spec marks as derived from R71, R72, R76: with every write effective the wire carries
exactly the word, most significant bit first, in one frame, whatever the levels were beforehand; and the
same for any order of the three writes within step 1 and of the three within step 3. -/
def Obligations.TransmitPutsWordOnWire : Prop :=
  (∀ (w : Word24) (s : State), s.busy = false → AllEff s 78 →
    ∃ t, exec (.transmit w) s = .next t ∧
      sampleWire (historySince s t) = bits24 w ∧ wireFrames (historySince s t) = [bits24 w]) ∧
  ∀ (w : Word24) (s : State) (first last : List MicroAction), AllEff s 78 →
    first.Perm openingWrites → last.Perm closingWrites →
    let t := runActions (first ++ (List.range 24).flatMap (bitWrites w) ++ .delay :: last) s
    sampleWire (historySince s t) = bits24 w ∧ wireFrames (historySince s t) = [bits24 w]

/-- R26, which the spec marks as derived from R71: when the last three level writes of an operation that
transmits were effective, the wire is idle afterwards: chip-select high, clock and data low; for a
bring-up, of a table that is not empty. -/
def Obligations.WireIdleAfterTransmission : Prop :=
  ∀ (s t : State) (i : Instr), exec i s = .next t →
    ((∃ w, i = .transmit w) ∨ (∃ a v, i = .writereg a v) ∨
      ((∃ p, i = .initpanel p) ∨ ∃ b c, i = .setdisplay b c) ∧ s.params.panelTable ≠ []) →
    (∃ es, t.trace = es ++ [.evWrite .data false true, .evWrite .clk false true, .evWrite .cs true true]) →
    t.level = ⟨true, false, false⟩

/-- R123, which the spec marks as derived from R62, R79: a TRANSMIT, WRITEREG or INITPANEL before any
line is owned runs its full sequence, every write dropped and logged, nothing on the wire, and returns.
-/
def Obligations.UseBeforeSetupIsSilent : Prop :=
  ∀ (s : State) (i : Instr) (n : Nat), s.busy = false → NoneOwned s →
    ((∃ w, i = .transmit w) ∧ n = 1 ∨ (∃ a v, i = .writereg a v) ∧ n = 2 ∨
      (∃ p, i = .initpanel p) ∧ n = 2 * s.params.panelTable.length) →
    ∃ t, exec i s = .next t ∧ t.busy = false ∧ t.level = s.level ∧
      (eventsSince s t).length = 79 * n ∧
      (∀ l b e, .evWrite l b e ∈ eventsSince s t → e = false) ∧
      (diagsSince s t).length = 78 * n ∧ (∀ d ∈ diagsSince s t, d.kind = .diagWrite) ∧
      sampleWire (historySince s t) = [] ∧ wireFrames (historySince s t) = []

/-- R80 (b): the write that selects is dropped with chip-select high: no bit and no frame is seen. -/
def Obligations.DroppedSelectHidesFrame : Prop :=
  ∀ (w : Word24) (s : State), s.busy = false → LinesReady s → OnlyFails s 2 78 → s.level.cs = true →
    ∃ t, exec (.transmit w) s = .next t ∧
      sampleWire (historySince s t) = [] ∧ wireFrames (historySince s t) = []

/-- R80 (c), (d): one clock write dropped, the rise of a bit or the fall before it with the clock high,
and that bit is missing from a frame of 23 bits. -/
def Obligations.DroppedClockWriteLosesBit : Prop :=
  ∀ (w : Word24) (s : State) (k j : Nat), s.busy = false → LinesReady s → OnlyFails s j 78 →
    (k < 24 ∧ j = 5 + 3 * k ∨ 1 ≤ k ∧ k < 24 ∧ j = 3 + 3 * k) →
    ∃ t, exec (.transmit w) s = .next t ∧
      sampleWire (historySince s t) = (bits24 w).eraseIdx k ∧
      wireFrames (historySince s t) = [(bits24 w).eraseIdx k]

/-- R80 (e): one data write dropped, and the receiver samples what DATA held: the bit before, or 0 at
the first bit. -/
def Obligations.DroppedDataWriteRepeatsBit : Prop :=
  ∀ (w : Word24) (s : State) (k : Nat), s.busy = false → LinesReady s → k < 24 →
    OnlyFails s (4 + 3 * k) 78 →
    ∃ t, exec (.transmit w) s = .next t ∧
      let held := if k = 0 then false else w.getLsbD (24 - k)
      sampleWire (historySince s t) = (bits24 w).set k held ∧
      wireFrames (historySince s t) = [(bits24 w).set k held]

/-- R80 (f), R132: the write that deselects is dropped, and the next transmission's bits join the same
window. -/
def Obligations.DroppedDeselectJoinsFrames : Prop :=
  ∀ (w w' : Word24) (s : State), s.busy = false → LinesReady s → OnlyFails s 77 156 →
    ∃ t u, exec (.transmit w) s = .next t ∧ exec (.transmit w') t = .next u ∧
      wireFrames (historySince s t) = [] ∧
      sampleWire (historySince s u) = bits24 w ++ bits24 w' ∧
      wireFrames (historySince s u) = [bits24 w ++ bits24 w']

/-- R16: one step of a transmission in flight performs the action of `upc` and `upc` goes on by exactly
one, whatever the word, the levels and the answers; after 78 a bare transmission returns and `upc` is
`IDLE`. -/
def Obligations.MicroStepsAreNumbered : Prop :=
  ∀ (s : State) (u : Fin 79), s.busy = true → s.upc = some u → (∀ k, s.client ≠ .lineSetup k) →
    ∃ t e, step s = .next t ∧ t.trace = s.trace ++ [e] ∧
      e.action = (transmitScript s.w)[u.val]? ∧
      (∀ h : u.val + 1 < 79, t.upc = some ⟨u.val + 1, h⟩ ∧ t.phase = s.phase ∧ t.w = s.w ∧ t.busy = true) ∧
      (u.val = 78 → s.phase = .none → t.upc = none ∧ t.busy = false)

/-! ### The framer -/

/-- R87: a register write is always exactly two transmissions, the address frame and then the data
frame, the second begun after the first has written chip-select high; for every answer of the
environment. -/
def Obligations.WriteregIsTwoTransmissions : Prop :=
  ∀ (a v : Word16) (s : State), s.busy = false →
    ∃ t, exec (.writereg a v) s = .next t ∧
      t.trace = s.trace ++ eventsSince s t ∧
      (eventsSince s t).map Event.action =
        (transmitScript (0x700000#24 ||| a.setWidth 24)).map some ++
        (transmitScript (0x720000#24 ||| v.setWidth 24)).map some

/-- R44, which the spec marks as derived from R85: the wire does not show which operation produced a
frame: WRITEREG and two bare TRANSMITs do the same at the line driver; and a bare TRANSMIT with any
other top byte is a legal operation. -/
def Obligations.WriteregLooksLikeTwoTransmits : Prop :=
  (∀ (a v : Word16) (s : State), s.busy = false →
    ∃ t u, exec (.writereg a v) s = .next t ∧
      execAll [.transmit (0x70#8 ++ a), .transmit (0x72#8 ++ v)] s = .next u ∧ SameDriver t u) ∧
  ∀ (w : Word24) (s : State), s.busy = false → w.extractLsb' 16 8 ≠ 0x70#8 → w.extractLsb' 16 8 ≠ 0x72#8 →
    ∃ t, exec (.transmit w) s = .next t

/-- R91, which the spec marks as derived from R85, R77: with every write effective, the register write
puts exactly its two frames on the wire. -/
def Obligations.WriteregPutsTwoFramesOnWire : Prop :=
  ∀ (a v : Word16) (s : State), s.busy = false → AllEff s 156 →
    ∃ t, exec (.writereg a v) s = .next t ∧
      wireFrames (historySince s t) =
        [bits24 (0x700000#24 + a.setWidth 24), bits24 (0x720000#24 + v.setWidth 24)]

/-- R89, which the spec marks as derived from R71, R75: the attempts of one register write, and its
chip-select writes low, high, low, high with the wire written idle in between. -/
def Obligations.WriteregAttemptCounts : Prop :=
  ∀ (a v : Word16) (s : State), s.busy = false →
    ∃ t, exec (.writereg a v) s = .next t ∧
      let es := eventsSince s t
      es.length = 158 ∧ (writesOn .cs es).length = 4 ∧ (writesOn .clk es).length = 100 ∧
      (writesOn .data es).length = 52 ∧ delaysIn es = 2 ∧
      writesOn .cs es = [false, true, false, true] ∧
      ((es.drop 76).take 6).map Event.action =
        [some (.write .data false), some (.write .clk false), some (.write .cs true),
          some (.write .data false), some (.write .clk false), some (.write .cs false)]

/-- What a register write leaves unchanged, and the ghost map's new value. `W`, `A`, `V` are unspecified
afterwards (R14, R15) and are not mentioned. The ghost map is the model's bookkeeping (R31, log 13). -/
def Obligations.WriteregFrame : Prop :=
  ∀ (a v : Word16) (s : State), s.busy = false → s.target.wf = true →
    ∃ t, exec (.writereg a v) s = .next t ∧
      t.owned = s.owned ∧ t.dir = s.dir ∧ t.upc = none ∧ t.phase = .none ∧ t.p = s.p ∧
      t.tix = s.tix ∧ t.initDone = s.initDone ∧ t.busy = false ∧ t.client = s.client ∧
      t.params = s.params ∧ t.draws = s.draws ∧ t.drawn = s.drawn ∧ t.port = s.port ∧
      t.answers = s.answers.drop 156 ∧ t.asked = s.asked + 156 ∧
      t.target.wf = true ∧ t.target.read a.toNat = some v ∧
      ∀ b, b ≠ a.toNat → t.target.read b = s.target.read b

/-- R88: the positions of a register write in flight: `phase` is `ADDR` during the first transmission
and `DATA` during the second, `upc` runs 0 to 78 twice, the latches hold the operands, and what has been
done at the lines is what the transmissions have done so far, no more; after 158 micro-steps the state
is the one `exec` answers. -/
def Obligations.WriteregPositions : Prop :=
  ∀ (a v : Word16) (s : State), SeqIdle s →
    (∀ (k : Nat) (h : k < 79),
      let t := seqStep^[k] (start (.writereg a v) s)
      t.busy = true ∧ t.phase = .addr ∧ t.upc = some ⟨k, h⟩ ∧ t.a = a ∧ t.v = v ∧
        (eventsSince s t).map Event.action = ((transmitScript (0x70#8 ++ a)).take k).map some) ∧
    (∀ (k : Nat) (h : k < 79),
      let t := seqStep^[79 + k] (start (.writereg a v) s)
      t.busy = true ∧ t.phase = .data ∧ t.upc = some ⟨k, h⟩ ∧ t.a = a ∧ t.v = v ∧
        (eventsSince s t).map Event.action =
          (transmitScript (0x70#8 ++ a) ++ (transmitScript (0x72#8 ++ v)).take k).map some) ∧
    exec (.writereg a v) s = .next (seqStep^[158] (start (.writereg a v) s))

/-! ### The client -/

/-- R95, R96: the caller's word goes into exactly one of the register writes; no other depends on it. -/
def Obligations.CallerWordGoesInOnePlace : Prop :=
  ∀ q : Params, tablePacked q.panelTable = true →
    ∃ k r, k < q.panelTable.length ∧ ∀ p,
      (tableWrites q p)[k]? = some (.writereg r p) ∧
      ∀ j, j ≠ k → ∀ p', (tableWrites q p)[j]? = (tableWrites q p')[j]?

/-- R95: INITPANEL is one WRITEREG per entry, in table order, with the caller's word at the marked
entry. -/
def Obligations.InitpanelIssuesTheTable : Prop :=
  ∀ (p : Word16) (s : State), SeqIdle s →
    ∃ t u, exec (.initpanel p) s = .next t ∧ execAll (tableWrites s.params p) s = .next u ∧
      SameDriver t u ∧ t.target = u.target ∧ SeqIdle t ∧
      t.initDone = s.initDone ∧ t.params = s.params ∧ t.port = s.port

/-- R97, R98: SETDISPLAY is line set-up when it is due (three exports, each followed by its direction
`out`), and then INITPANEL of the packed word. -/
def Obligations.SetdisplayExpands : Prop :=
  ∀ (b c : Byte) (s : State), SeqIdle s →
    let due := s.params.initPolicy = .everyCall ∨ s.initDone = false
    ∃ t u, exec (.setdisplay b c) s = .next t ∧
      (due → execAll (setupOps ++ [.initpanel (b ++ c)]) s = .next u ∧ t.initDone = true) ∧
      (¬ due → execAll [.initpanel (b ++ c)] s = .next u ∧ t.initDone = s.initDone) ∧
      SameDriver t u ∧ t.target = u.target ∧ SeqIdle t ∧ t.params = s.params ∧ t.port = s.port

/-- R99: the attempts of a bring-up over a table of `n` entries; line set-up adds its 6 events. -/
def Obligations.BringUpCounts : Prop :=
  ∀ (p : Word16) (b c : Byte) (s : State), s.busy = false →
    let n := s.params.panelTable.length
    (∃ t, exec (.initpanel p) s = .next t ∧
      let es := eventsSince s t
      es.length = 158 * n ∧ (writesOn .cs es).length = 4 * n ∧ (writesOn .clk es).length = 100 * n ∧
      (writesOn .data es).length = 52 * n ∧ delaysIn es = 2 * n) ∧
    ∃ t, exec (.setdisplay b c) s = .next t ∧
      (eventsSince s t).length = (if setupDue s then 6 else 0) + 158 * n

/-- R99: with every write effective, a bring-up puts the two frames of each entry on the wire, in order.
-/
def Obligations.InitpanelFramesOnWire : Prop :=
  ∀ (p : Word16) (s : State), s.busy = false →
    AllEff s (156 * s.params.panelTable.length) →
    ∃ t, exec (.initpanel p) s = .next t ∧
      wireFrames (historySince s t) = tableFrames s.params p

/-- R99, R131: with every attempt successful and a quiet line set-up (no bit sampled by its draws), the
bits sampled over a whole SETDISPLAY are the table's frames, in order. -/
def Obligations.SetdisplayBitsOnWire : Prop :=
  ∀ (b c : Byte) (s u : State), SeqIdle s → setupDue s = true →
    AllOk s (6 + 156 * s.params.panelTable.length) →
    execAll setupOps s = .next u → QuietConfig s u →
    ∃ t, exec (.setdisplay b c) s = .next t ∧
      sampleWire (historySince s t) = (tableFrames s.params (b ++ c)).flatten

/-- R100: when line set-up fails entirely, the whole bring-up still runs, every write is dropped, one
diagnostic is logged per attempt, and SETDISPLAY returns as on success. -/
def Obligations.FailedSetupStillRuns : Prop :=
  ∀ (b c : Byte) (s : State), s.busy = false → NoneOwned s → setupDue s = true →
    (s.okAt 0 = false ∧ s.okAt 2 = false ∧ s.okAt 4 = false) →
    let n := s.params.panelTable.length
    ∃ t, exec (.setdisplay b c) s = .next t ∧ t.busy = false ∧ t.initDone = true ∧
      t.level = s.level ∧ NoneOwned t ∧ (eventsSince s t).length = 6 + 158 * n ∧
      (∀ l b eff, .evWrite l b eff ∈ eventsSince s t → eff = false) ∧
      (diagsSince s t).length = 6 + 156 * n

/-- What a bring-up leaves unchanged: the client operations touch nothing above the line registers but
their own latches, the ghost map and `INIT_DONE`; INITPANEL changes no ownership and no direction. -/
def Obligations.BringUpFrame : Prop :=
  ∀ (s t : State), SeqIdle s →
    (∀ p, exec (.initpanel p) s = .next t →
      t.owned = s.owned ∧ t.dir = s.dir ∧ t.initDone = s.initDone ∧ t.draws = s.draws ∧
      t.drawn = s.drawn ∧ t.params = s.params ∧ t.port = s.port ∧ SeqIdle t ∧
      ∀ r, (∀ e ∈ s.params.panelTable, e.reg.toNat ≠ r) → t.target.read r = s.target.read r) ∧
    (∀ b c, exec (.setdisplay b c) s = .next t →
      (setupDue s = false → t.owned = s.owned ∧ t.dir = s.dir ∧ t.draws = s.draws ∧ t.drawn = s.drawn) ∧
      t.params = s.params ∧ t.port = s.port ∧ SeqIdle t ∧
      ∀ r, (∀ e ∈ s.params.panelTable, e.reg.toNat ≠ r) → t.target.read r = s.target.read r)

/-- R101: any sequence of up and down steps keeps an index in 0..7, ups and downs saturate, and the
bytes handed to SETDISPLAY are the tables' entries. -/
def Obligations.IndexStepsSaturate : Prop :=
  (∀ (ops : List Bool) (x : Nat), x ≤ 7 →
    ops.foldl (fun x up => if up then indexUp x else indexDown x) x ≤ 7) ∧
  (∀ n x, x ≤ 7 → indexUp^[n] x = min (x + n) 7 ∧ indexDown^[n] x = x - n) ∧
  ∀ (q : Params) (xb xc : Fin 8), displayOperands q xb xc = (q.brightLut[xb], q.contrastLut[xc])

/-! ### The machine -/

/-- When the port is ready and the next request decodes, one step is that operation, with the request
taken from the list. -/
def Obligations.StepRunsDecodedOperation : Prop :=
  ∀ (s : State) (item : PortItem) (rest : List PortItem) (i : Instr),
    s.busy = false → s.port = item :: rest → decode s.params.pins item = .ok i →
    step s = exec i (s.withPort rest)

/-- A list of well-formed requests at the port is run in order, each once the one before has returned,
one step each, and then the run has ended (R7, R38). That a program stands in the state as a list of
requests is the model's choice (log 7). -/
def Obligations.RequestsRunInOrder : Prop :=
  ∀ (is : List Instr) (s : State), SeqIdle s → pinsDistinct s.params.pins = true →
    (∀ i ∈ is, i.wf = true) → s.port = is.map (encode s.params.pins) →
    ∃ t u, runSteps is.length s = .next t ∧ execAll is s = .next u ∧ t = u.withPort [] ∧ RunEnded t

/-- Every operation returns, under any operand and any answer of the environment (R105, R137). That every
attempt returns is the spec's decision D9, followed in log 16; that the frame rows are operations is
DEDUCED (log 10). -/
def Obligations.EveryOperationReturns : Prop :=
  ∀ (i : Instr) (s : State), s.busy = false → ∃ t, exec i s = .next t ∧ t.busy = false

/-- While an operation is in flight the port refuses every issue, and a step takes no request (R128). The
model's choices in it: line-driver operations are refused too (log 19), the frame rows are operations
(log 10), the requests are a list (log 7). -/
def Obligations.BusyPortRefuses : Prop :=
  ∀ (i : Instr) (s : State), s.busy = true →
    exec i s = .refused .portNotReady ∧ ∃ t, step s = .next t ∧ t.port = s.port

/-- R115, R120: with no request the block waits. The stutter is the model's rendering (log 7). -/
def Obligations.IdleBlockWaits : Prop :=
  ∀ s : State, s.busy = false → s.port = [] → step s = .next s

/-- R24: what reset leaves: the values the spec gives, and for each level a draw. -/
def Obligations.ResetLeavesNothingSetUp : Prop :=
  (∀ l, State.reset.owned.get l = false ∧ State.reset.dir.get l = .unset ∧
    State.reset.level.get l = Config.resetLevel l) ∧
  State.reset.upc = none ∧ State.reset.phase = .none ∧ State.reset.tix = 0 ∧
  State.reset.busy = false ∧ State.reset.initDone = false ∧ State.reset.trace = [] ∧
  State.reset.diag = []

/-- The invariant holds at reset. -/
def Obligations.ResetMeetsInv : Prop := Inv State.reset

/-- Every step keeps the invariant, from every state that meets it (R21, R25, R76 and the ghost map's
canonical form). -/
def Obligations.StepKeepsInv : Prop :=
  ∀ s t : State, Inv s → step s = .next t → Inv t

/-- Putting an operation in flight and performing its micro-steps one at a time ends, after exactly the
number R137 gives, in the state `exec` answers; `BUSY` is true at every micro-step before (R18). That
`exec` runs an operation whole is the model's choice (log 8); that the frame rows are operations is
DEDUCED (log 10). -/
def Obligations.SequencerAgreesWithExec : Prop :=
  ∀ (i : Instr) (s : State), SeqIdle s →
    exec i s = .next (seqStep^[microSteps i s] (start i s)) ∧
    ∀ k, k < microSteps i s → (seqStep^[k] (start i s)).busy = true

/-- R42: no step writes the parameters, and a step takes at most the first request. -/
def Obligations.ParametersAreFixed : Prop :=
  ∀ s t : State, step s = .next t → t.params = s.params ∧ (t.port = s.port ∨ t.port = s.port.tail)

/-- R131: the model admits the run in which the draws of line set-up clock one stray bit into the first
frame, which then has 25 bits (program P5). -/
def Obligations.StrayBitIsAdmitted : Prop :=
  ∃ s t : State, SeqIdle s ∧ NoneOwned s ∧
    execAll (setupOps ++ [.writereg 0x0001#16 0x1234#16]) s = .next t ∧ t.diag = s.diag ∧
    wireFrames (historySince s t) = [true :: bits24 0x700001#24, bits24 0x721234#24]
end

