-- ==== Sys2Proof/Laws/State.lean ====
section
/-! SUPPORT. One lemma per field per named update of State, true by rfl: no later proof unfolds a record
update. -/

namespace Sys2Proof.Machine

/-! ### State.popOk -/

@[simp] theorem State.popOk_level (s : State) : s.popOk.level = s.level := rfl
@[simp] theorem State.popOk_owned (s : State) : s.popOk.owned = s.owned := rfl
@[simp] theorem State.popOk_dir (s : State) : s.popOk.dir = s.dir := rfl
@[simp] theorem State.popOk_w (s : State) : s.popOk.w = s.w := rfl
@[simp] theorem State.popOk_upc (s : State) : s.popOk.upc = s.upc := rfl
@[simp] theorem State.popOk_a (s : State) : s.popOk.a = s.a := rfl
@[simp] theorem State.popOk_v (s : State) : s.popOk.v = s.v := rfl
@[simp] theorem State.popOk_phase (s : State) : s.popOk.phase = s.phase := rfl
@[simp] theorem State.popOk_p (s : State) : s.popOk.p = s.p := rfl
@[simp] theorem State.popOk_tix (s : State) : s.popOk.tix = s.tix := rfl
@[simp] theorem State.popOk_initDone (s : State) : s.popOk.initDone = s.initDone := rfl
@[simp] theorem State.popOk_busy (s : State) : s.popOk.busy = s.busy := rfl
@[simp] theorem State.popOk_trace (s : State) : s.popOk.trace = s.trace := rfl
@[simp] theorem State.popOk_diag (s : State) : s.popOk.diag = s.diag := rfl
@[simp] theorem State.popOk_client (s : State) : s.popOk.client = s.client := rfl
@[simp] theorem State.popOk_history (s : State) : s.popOk.history = s.history := rfl
@[simp] theorem State.popOk_target (s : State) : s.popOk.target = s.target := rfl
@[simp] theorem State.popOk_params (s : State) : s.popOk.params = s.params := rfl
@[simp] theorem State.popOk_answers (s : State) : s.popOk.answers = s.answers.tail := rfl
@[simp] theorem State.popOk_asked (s : State) : s.popOk.asked = s.asked + 1 := rfl
@[simp] theorem State.popOk_draws (s : State) : s.popOk.draws = s.draws := rfl
@[simp] theorem State.popOk_drawn (s : State) : s.popOk.drawn = s.drawn := rfl
@[simp] theorem State.popOk_scrubbed (s : State) : s.popOk.scrubbed = s.scrubbed := rfl
@[simp] theorem State.popOk_port (s : State) : s.popOk.port = s.port := rfl

/-! ### State.popDraw -/

@[simp] theorem State.popDraw_level (s : State) : s.popDraw.level = s.level := rfl
@[simp] theorem State.popDraw_owned (s : State) : s.popDraw.owned = s.owned := rfl
@[simp] theorem State.popDraw_dir (s : State) : s.popDraw.dir = s.dir := rfl
@[simp] theorem State.popDraw_w (s : State) : s.popDraw.w = s.w := rfl
@[simp] theorem State.popDraw_upc (s : State) : s.popDraw.upc = s.upc := rfl
@[simp] theorem State.popDraw_a (s : State) : s.popDraw.a = s.a := rfl
@[simp] theorem State.popDraw_v (s : State) : s.popDraw.v = s.v := rfl
@[simp] theorem State.popDraw_phase (s : State) : s.popDraw.phase = s.phase := rfl
@[simp] theorem State.popDraw_p (s : State) : s.popDraw.p = s.p := rfl
@[simp] theorem State.popDraw_tix (s : State) : s.popDraw.tix = s.tix := rfl
@[simp] theorem State.popDraw_initDone (s : State) : s.popDraw.initDone = s.initDone := rfl
@[simp] theorem State.popDraw_busy (s : State) : s.popDraw.busy = s.busy := rfl
@[simp] theorem State.popDraw_trace (s : State) : s.popDraw.trace = s.trace := rfl
@[simp] theorem State.popDraw_diag (s : State) : s.popDraw.diag = s.diag := rfl
@[simp] theorem State.popDraw_client (s : State) : s.popDraw.client = s.client := rfl
@[simp] theorem State.popDraw_history (s : State) : s.popDraw.history = s.history := rfl
@[simp] theorem State.popDraw_target (s : State) : s.popDraw.target = s.target := rfl
@[simp] theorem State.popDraw_params (s : State) : s.popDraw.params = s.params := rfl
@[simp] theorem State.popDraw_answers (s : State) : s.popDraw.answers = s.answers := rfl
@[simp] theorem State.popDraw_asked (s : State) : s.popDraw.asked = s.asked := rfl
@[simp] theorem State.popDraw_draws (s : State) : s.popDraw.draws = s.draws.tail := rfl
@[simp] theorem State.popDraw_drawn (s : State) : s.popDraw.drawn = s.drawn + 1 := rfl
@[simp] theorem State.popDraw_scrubbed (s : State) : s.popDraw.scrubbed = s.scrubbed := rfl
@[simp] theorem State.popDraw_port (s : State) : s.popDraw.port = s.port := rfl

/-! ### State.emit -/

@[simp] theorem State.emit_level (s : State) (e : Event) : (s.emit e).level = s.level := rfl
@[simp] theorem State.emit_owned (s : State) (e : Event) : (s.emit e).owned = s.owned := rfl
@[simp] theorem State.emit_dir (s : State) (e : Event) : (s.emit e).dir = s.dir := rfl
@[simp] theorem State.emit_w (s : State) (e : Event) : (s.emit e).w = s.w := rfl
@[simp] theorem State.emit_upc (s : State) (e : Event) : (s.emit e).upc = s.upc := rfl
@[simp] theorem State.emit_a (s : State) (e : Event) : (s.emit e).a = s.a := rfl
@[simp] theorem State.emit_v (s : State) (e : Event) : (s.emit e).v = s.v := rfl
@[simp] theorem State.emit_phase (s : State) (e : Event) : (s.emit e).phase = s.phase := rfl
@[simp] theorem State.emit_p (s : State) (e : Event) : (s.emit e).p = s.p := rfl
@[simp] theorem State.emit_tix (s : State) (e : Event) : (s.emit e).tix = s.tix := rfl
@[simp] theorem State.emit_initDone (s : State) (e : Event) : (s.emit e).initDone = s.initDone := rfl
@[simp] theorem State.emit_busy (s : State) (e : Event) : (s.emit e).busy = s.busy := rfl
@[simp] theorem State.emit_trace (s : State) (e : Event) : (s.emit e).trace = s.trace ++ [e] := rfl
@[simp] theorem State.emit_diag (s : State) (e : Event) : (s.emit e).diag = s.diag := rfl
@[simp] theorem State.emit_client (s : State) (e : Event) : (s.emit e).client = s.client := rfl
@[simp] theorem State.emit_history (s : State) (e : Event) : (s.emit e).history = s.history ++ [s.level] := rfl
@[simp] theorem State.emit_target (s : State) (e : Event) : (s.emit e).target = s.target := rfl
@[simp] theorem State.emit_params (s : State) (e : Event) : (s.emit e).params = s.params := rfl
@[simp] theorem State.emit_answers (s : State) (e : Event) : (s.emit e).answers = s.answers := rfl
@[simp] theorem State.emit_asked (s : State) (e : Event) : (s.emit e).asked = s.asked := rfl
@[simp] theorem State.emit_draws (s : State) (e : Event) : (s.emit e).draws = s.draws := rfl
@[simp] theorem State.emit_drawn (s : State) (e : Event) : (s.emit e).drawn = s.drawn := rfl
@[simp] theorem State.emit_scrubbed (s : State) (e : Event) : (s.emit e).scrubbed = s.scrubbed := rfl
@[simp] theorem State.emit_port (s : State) (e : Event) : (s.emit e).port = s.port := rfl

/-! ### State.logFailure -/

@[simp] theorem State.logFailure_level (s : State) (k : DiagKind) (l : Line) : (s.logFailure k l).level = s.level := rfl
@[simp] theorem State.logFailure_owned (s : State) (k : DiagKind) (l : Line) : (s.logFailure k l).owned = s.owned := rfl
@[simp] theorem State.logFailure_dir (s : State) (k : DiagKind) (l : Line) : (s.logFailure k l).dir = s.dir := rfl
@[simp] theorem State.logFailure_w (s : State) (k : DiagKind) (l : Line) : (s.logFailure k l).w = s.w := rfl
@[simp] theorem State.logFailure_upc (s : State) (k : DiagKind) (l : Line) : (s.logFailure k l).upc = s.upc := rfl
@[simp] theorem State.logFailure_a (s : State) (k : DiagKind) (l : Line) : (s.logFailure k l).a = s.a := rfl
@[simp] theorem State.logFailure_v (s : State) (k : DiagKind) (l : Line) : (s.logFailure k l).v = s.v := rfl
@[simp] theorem State.logFailure_phase (s : State) (k : DiagKind) (l : Line) : (s.logFailure k l).phase = s.phase := rfl
@[simp] theorem State.logFailure_p (s : State) (k : DiagKind) (l : Line) : (s.logFailure k l).p = s.p := rfl
@[simp] theorem State.logFailure_tix (s : State) (k : DiagKind) (l : Line) : (s.logFailure k l).tix = s.tix := rfl
@[simp] theorem State.logFailure_initDone (s : State) (k : DiagKind) (l : Line) : (s.logFailure k l).initDone = s.initDone := rfl
@[simp] theorem State.logFailure_busy (s : State) (k : DiagKind) (l : Line) : (s.logFailure k l).busy = s.busy := rfl
@[simp] theorem State.logFailure_trace (s : State) (k : DiagKind) (l : Line) : (s.logFailure k l).trace = s.trace := rfl
@[simp] theorem State.logFailure_diag (s : State) (k : DiagKind) (l : Line) : (s.logFailure k l).diag = s.diag ++ [⟨k, l⟩] := rfl
@[simp] theorem State.logFailure_client (s : State) (k : DiagKind) (l : Line) : (s.logFailure k l).client = s.client := rfl
@[simp] theorem State.logFailure_history (s : State) (k : DiagKind) (l : Line) : (s.logFailure k l).history = s.history := rfl
@[simp] theorem State.logFailure_target (s : State) (k : DiagKind) (l : Line) : (s.logFailure k l).target = s.target := rfl
@[simp] theorem State.logFailure_params (s : State) (k : DiagKind) (l : Line) : (s.logFailure k l).params = s.params := rfl
@[simp] theorem State.logFailure_answers (s : State) (k : DiagKind) (l : Line) : (s.logFailure k l).answers = s.answers := rfl
@[simp] theorem State.logFailure_asked (s : State) (k : DiagKind) (l : Line) : (s.logFailure k l).asked = s.asked := rfl
@[simp] theorem State.logFailure_draws (s : State) (k : DiagKind) (l : Line) : (s.logFailure k l).draws = s.draws := rfl
@[simp] theorem State.logFailure_drawn (s : State) (k : DiagKind) (l : Line) : (s.logFailure k l).drawn = s.drawn := rfl
@[simp] theorem State.logFailure_scrubbed (s : State) (k : DiagKind) (l : Line) : (s.logFailure k l).scrubbed = s.scrubbed := rfl
@[simp] theorem State.logFailure_port (s : State) (k : DiagKind) (l : Line) : (s.logFailure k l).port = s.port := rfl

/-! ### State.own -/

@[simp] theorem State.own_level (s : State) (l : Line) : (s.own l).level = s.level := rfl
@[simp] theorem State.own_owned (s : State) (l : Line) : (s.own l).owned = s.owned.set l true := rfl
@[simp] theorem State.own_dir (s : State) (l : Line) : (s.own l).dir = s.dir := rfl
@[simp] theorem State.own_w (s : State) (l : Line) : (s.own l).w = s.w := rfl
@[simp] theorem State.own_upc (s : State) (l : Line) : (s.own l).upc = s.upc := rfl
@[simp] theorem State.own_a (s : State) (l : Line) : (s.own l).a = s.a := rfl
@[simp] theorem State.own_v (s : State) (l : Line) : (s.own l).v = s.v := rfl
@[simp] theorem State.own_phase (s : State) (l : Line) : (s.own l).phase = s.phase := rfl
@[simp] theorem State.own_p (s : State) (l : Line) : (s.own l).p = s.p := rfl
@[simp] theorem State.own_tix (s : State) (l : Line) : (s.own l).tix = s.tix := rfl
@[simp] theorem State.own_initDone (s : State) (l : Line) : (s.own l).initDone = s.initDone := rfl
@[simp] theorem State.own_busy (s : State) (l : Line) : (s.own l).busy = s.busy := rfl
@[simp] theorem State.own_trace (s : State) (l : Line) : (s.own l).trace = s.trace := rfl
@[simp] theorem State.own_diag (s : State) (l : Line) : (s.own l).diag = s.diag := rfl
@[simp] theorem State.own_client (s : State) (l : Line) : (s.own l).client = s.client := rfl
@[simp] theorem State.own_history (s : State) (l : Line) : (s.own l).history = s.history := rfl
@[simp] theorem State.own_target (s : State) (l : Line) : (s.own l).target = s.target := rfl
@[simp] theorem State.own_params (s : State) (l : Line) : (s.own l).params = s.params := rfl
@[simp] theorem State.own_answers (s : State) (l : Line) : (s.own l).answers = s.answers := rfl
@[simp] theorem State.own_asked (s : State) (l : Line) : (s.own l).asked = s.asked := rfl
@[simp] theorem State.own_draws (s : State) (l : Line) : (s.own l).draws = s.draws := rfl
@[simp] theorem State.own_drawn (s : State) (l : Line) : (s.own l).drawn = s.drawn := rfl
@[simp] theorem State.own_scrubbed (s : State) (l : Line) : (s.own l).scrubbed = s.scrubbed := rfl
@[simp] theorem State.own_port (s : State) (l : Line) : (s.own l).port = s.port := rfl

/-! ### State.setDir -/

@[simp] theorem State.setDir_level (s : State) (l : Line) (d : Dir) : (s.setDir l d).level = s.level := rfl
@[simp] theorem State.setDir_owned (s : State) (l : Line) (d : Dir) : (s.setDir l d).owned = s.owned := rfl
@[simp] theorem State.setDir_dir (s : State) (l : Line) (d : Dir) : (s.setDir l d).dir = s.dir.set l d := rfl
@[simp] theorem State.setDir_w (s : State) (l : Line) (d : Dir) : (s.setDir l d).w = s.w := rfl
@[simp] theorem State.setDir_upc (s : State) (l : Line) (d : Dir) : (s.setDir l d).upc = s.upc := rfl
@[simp] theorem State.setDir_a (s : State) (l : Line) (d : Dir) : (s.setDir l d).a = s.a := rfl
@[simp] theorem State.setDir_v (s : State) (l : Line) (d : Dir) : (s.setDir l d).v = s.v := rfl
@[simp] theorem State.setDir_phase (s : State) (l : Line) (d : Dir) : (s.setDir l d).phase = s.phase := rfl
@[simp] theorem State.setDir_p (s : State) (l : Line) (d : Dir) : (s.setDir l d).p = s.p := rfl
@[simp] theorem State.setDir_tix (s : State) (l : Line) (d : Dir) : (s.setDir l d).tix = s.tix := rfl
@[simp] theorem State.setDir_initDone (s : State) (l : Line) (d : Dir) : (s.setDir l d).initDone = s.initDone := rfl
@[simp] theorem State.setDir_busy (s : State) (l : Line) (d : Dir) : (s.setDir l d).busy = s.busy := rfl
@[simp] theorem State.setDir_trace (s : State) (l : Line) (d : Dir) : (s.setDir l d).trace = s.trace := rfl
@[simp] theorem State.setDir_diag (s : State) (l : Line) (d : Dir) : (s.setDir l d).diag = s.diag := rfl
@[simp] theorem State.setDir_client (s : State) (l : Line) (d : Dir) : (s.setDir l d).client = s.client := rfl
@[simp] theorem State.setDir_history (s : State) (l : Line) (d : Dir) : (s.setDir l d).history = s.history := rfl
@[simp] theorem State.setDir_target (s : State) (l : Line) (d : Dir) : (s.setDir l d).target = s.target := rfl
@[simp] theorem State.setDir_params (s : State) (l : Line) (d : Dir) : (s.setDir l d).params = s.params := rfl
@[simp] theorem State.setDir_answers (s : State) (l : Line) (d : Dir) : (s.setDir l d).answers = s.answers := rfl
@[simp] theorem State.setDir_asked (s : State) (l : Line) (d : Dir) : (s.setDir l d).asked = s.asked := rfl
@[simp] theorem State.setDir_draws (s : State) (l : Line) (d : Dir) : (s.setDir l d).draws = s.draws := rfl
@[simp] theorem State.setDir_drawn (s : State) (l : Line) (d : Dir) : (s.setDir l d).drawn = s.drawn := rfl
@[simp] theorem State.setDir_scrubbed (s : State) (l : Line) (d : Dir) : (s.setDir l d).scrubbed = s.scrubbed := rfl
@[simp] theorem State.setDir_port (s : State) (l : Line) (d : Dir) : (s.setDir l d).port = s.port := rfl

/-! ### State.drive -/

@[simp] theorem State.drive_level (s : State) (l : Line) (b : Level) : (s.drive l b).level = s.level.set l b := rfl
@[simp] theorem State.drive_owned (s : State) (l : Line) (b : Level) : (s.drive l b).owned = s.owned := rfl
@[simp] theorem State.drive_dir (s : State) (l : Line) (b : Level) : (s.drive l b).dir = s.dir := rfl
@[simp] theorem State.drive_w (s : State) (l : Line) (b : Level) : (s.drive l b).w = s.w := rfl
@[simp] theorem State.drive_upc (s : State) (l : Line) (b : Level) : (s.drive l b).upc = s.upc := rfl
@[simp] theorem State.drive_a (s : State) (l : Line) (b : Level) : (s.drive l b).a = s.a := rfl
@[simp] theorem State.drive_v (s : State) (l : Line) (b : Level) : (s.drive l b).v = s.v := rfl
@[simp] theorem State.drive_phase (s : State) (l : Line) (b : Level) : (s.drive l b).phase = s.phase := rfl
@[simp] theorem State.drive_p (s : State) (l : Line) (b : Level) : (s.drive l b).p = s.p := rfl
@[simp] theorem State.drive_tix (s : State) (l : Line) (b : Level) : (s.drive l b).tix = s.tix := rfl
@[simp] theorem State.drive_initDone (s : State) (l : Line) (b : Level) : (s.drive l b).initDone = s.initDone := rfl
@[simp] theorem State.drive_busy (s : State) (l : Line) (b : Level) : (s.drive l b).busy = s.busy := rfl
@[simp] theorem State.drive_trace (s : State) (l : Line) (b : Level) : (s.drive l b).trace = s.trace := rfl
@[simp] theorem State.drive_diag (s : State) (l : Line) (b : Level) : (s.drive l b).diag = s.diag := rfl
@[simp] theorem State.drive_client (s : State) (l : Line) (b : Level) : (s.drive l b).client = s.client := rfl
@[simp] theorem State.drive_history (s : State) (l : Line) (b : Level) : (s.drive l b).history = s.history := rfl
@[simp] theorem State.drive_target (s : State) (l : Line) (b : Level) : (s.drive l b).target = s.target := rfl
@[simp] theorem State.drive_params (s : State) (l : Line) (b : Level) : (s.drive l b).params = s.params := rfl
@[simp] theorem State.drive_answers (s : State) (l : Line) (b : Level) : (s.drive l b).answers = s.answers := rfl
@[simp] theorem State.drive_asked (s : State) (l : Line) (b : Level) : (s.drive l b).asked = s.asked := rfl
@[simp] theorem State.drive_draws (s : State) (l : Line) (b : Level) : (s.drive l b).draws = s.draws := rfl
@[simp] theorem State.drive_drawn (s : State) (l : Line) (b : Level) : (s.drive l b).drawn = s.drawn := rfl
@[simp] theorem State.drive_scrubbed (s : State) (l : Line) (b : Level) : (s.drive l b).scrubbed = s.scrubbed := rfl
@[simp] theorem State.drive_port (s : State) (l : Line) (b : Level) : (s.drive l b).port = s.port := rfl

/-! ### State.scrubW -/

@[simp] theorem State.scrubW_level (s : State) : s.scrubW.level = s.level := rfl
@[simp] theorem State.scrubW_owned (s : State) : s.scrubW.owned = s.owned := rfl
@[simp] theorem State.scrubW_dir (s : State) : s.scrubW.dir = s.dir := rfl
@[simp] theorem State.scrubW_w (s : State) : s.scrubW.w = Config.idleW s.scrubbed := rfl
@[simp] theorem State.scrubW_upc (s : State) : s.scrubW.upc = s.upc := rfl
@[simp] theorem State.scrubW_a (s : State) : s.scrubW.a = s.a := rfl
@[simp] theorem State.scrubW_v (s : State) : s.scrubW.v = s.v := rfl
@[simp] theorem State.scrubW_phase (s : State) : s.scrubW.phase = s.phase := rfl
@[simp] theorem State.scrubW_p (s : State) : s.scrubW.p = s.p := rfl
@[simp] theorem State.scrubW_tix (s : State) : s.scrubW.tix = s.tix := rfl
@[simp] theorem State.scrubW_initDone (s : State) : s.scrubW.initDone = s.initDone := rfl
@[simp] theorem State.scrubW_busy (s : State) : s.scrubW.busy = s.busy := rfl
@[simp] theorem State.scrubW_trace (s : State) : s.scrubW.trace = s.trace := rfl
@[simp] theorem State.scrubW_diag (s : State) : s.scrubW.diag = s.diag := rfl
@[simp] theorem State.scrubW_client (s : State) : s.scrubW.client = s.client := rfl
@[simp] theorem State.scrubW_history (s : State) : s.scrubW.history = s.history := rfl
@[simp] theorem State.scrubW_target (s : State) : s.scrubW.target = s.target := rfl
@[simp] theorem State.scrubW_params (s : State) : s.scrubW.params = s.params := rfl
@[simp] theorem State.scrubW_answers (s : State) : s.scrubW.answers = s.answers := rfl
@[simp] theorem State.scrubW_asked (s : State) : s.scrubW.asked = s.asked := rfl
@[simp] theorem State.scrubW_draws (s : State) : s.scrubW.draws = s.draws := rfl
@[simp] theorem State.scrubW_drawn (s : State) : s.scrubW.drawn = s.drawn := rfl
@[simp] theorem State.scrubW_scrubbed (s : State) : s.scrubW.scrubbed = s.scrubbed + 1 := rfl
@[simp] theorem State.scrubW_port (s : State) : s.scrubW.port = s.port := rfl

/-! ### State.scrubAV -/

@[simp] theorem State.scrubAV_level (s : State) : s.scrubAV.level = s.level := rfl
@[simp] theorem State.scrubAV_owned (s : State) : s.scrubAV.owned = s.owned := rfl
@[simp] theorem State.scrubAV_dir (s : State) : s.scrubAV.dir = s.dir := rfl
@[simp] theorem State.scrubAV_w (s : State) : s.scrubAV.w = s.w := rfl
@[simp] theorem State.scrubAV_upc (s : State) : s.scrubAV.upc = s.upc := rfl
@[simp] theorem State.scrubAV_a (s : State) : s.scrubAV.a = Config.idleA s.scrubbed := rfl
@[simp] theorem State.scrubAV_v (s : State) : s.scrubAV.v = Config.idleV s.scrubbed := rfl
@[simp] theorem State.scrubAV_phase (s : State) : s.scrubAV.phase = s.phase := rfl
@[simp] theorem State.scrubAV_p (s : State) : s.scrubAV.p = s.p := rfl
@[simp] theorem State.scrubAV_tix (s : State) : s.scrubAV.tix = s.tix := rfl
@[simp] theorem State.scrubAV_initDone (s : State) : s.scrubAV.initDone = s.initDone := rfl
@[simp] theorem State.scrubAV_busy (s : State) : s.scrubAV.busy = s.busy := rfl
@[simp] theorem State.scrubAV_trace (s : State) : s.scrubAV.trace = s.trace := rfl
@[simp] theorem State.scrubAV_diag (s : State) : s.scrubAV.diag = s.diag := rfl
@[simp] theorem State.scrubAV_client (s : State) : s.scrubAV.client = s.client := rfl
@[simp] theorem State.scrubAV_history (s : State) : s.scrubAV.history = s.history := rfl
@[simp] theorem State.scrubAV_target (s : State) : s.scrubAV.target = s.target := rfl
@[simp] theorem State.scrubAV_params (s : State) : s.scrubAV.params = s.params := rfl
@[simp] theorem State.scrubAV_answers (s : State) : s.scrubAV.answers = s.answers := rfl
@[simp] theorem State.scrubAV_asked (s : State) : s.scrubAV.asked = s.asked := rfl
@[simp] theorem State.scrubAV_draws (s : State) : s.scrubAV.draws = s.draws := rfl
@[simp] theorem State.scrubAV_drawn (s : State) : s.scrubAV.drawn = s.drawn := rfl
@[simp] theorem State.scrubAV_scrubbed (s : State) : s.scrubAV.scrubbed = s.scrubbed + 1 := rfl
@[simp] theorem State.scrubAV_port (s : State) : s.scrubAV.port = s.port := rfl

/-! ### State.scrubP -/

@[simp] theorem State.scrubP_level (s : State) : s.scrubP.level = s.level := rfl
@[simp] theorem State.scrubP_owned (s : State) : s.scrubP.owned = s.owned := rfl
@[simp] theorem State.scrubP_dir (s : State) : s.scrubP.dir = s.dir := rfl
@[simp] theorem State.scrubP_w (s : State) : s.scrubP.w = s.w := rfl
@[simp] theorem State.scrubP_upc (s : State) : s.scrubP.upc = s.upc := rfl
@[simp] theorem State.scrubP_a (s : State) : s.scrubP.a = s.a := rfl
@[simp] theorem State.scrubP_v (s : State) : s.scrubP.v = s.v := rfl
@[simp] theorem State.scrubP_phase (s : State) : s.scrubP.phase = s.phase := rfl
@[simp] theorem State.scrubP_p (s : State) : s.scrubP.p = Config.idleP s.scrubbed := rfl
@[simp] theorem State.scrubP_tix (s : State) : s.scrubP.tix = s.tix := rfl
@[simp] theorem State.scrubP_initDone (s : State) : s.scrubP.initDone = s.initDone := rfl
@[simp] theorem State.scrubP_busy (s : State) : s.scrubP.busy = s.busy := rfl
@[simp] theorem State.scrubP_trace (s : State) : s.scrubP.trace = s.trace := rfl
@[simp] theorem State.scrubP_diag (s : State) : s.scrubP.diag = s.diag := rfl
@[simp] theorem State.scrubP_client (s : State) : s.scrubP.client = s.client := rfl
@[simp] theorem State.scrubP_history (s : State) : s.scrubP.history = s.history := rfl
@[simp] theorem State.scrubP_target (s : State) : s.scrubP.target = s.target := rfl
@[simp] theorem State.scrubP_params (s : State) : s.scrubP.params = s.params := rfl
@[simp] theorem State.scrubP_answers (s : State) : s.scrubP.answers = s.answers := rfl
@[simp] theorem State.scrubP_asked (s : State) : s.scrubP.asked = s.asked := rfl
@[simp] theorem State.scrubP_draws (s : State) : s.scrubP.draws = s.draws := rfl
@[simp] theorem State.scrubP_drawn (s : State) : s.scrubP.drawn = s.drawn := rfl
@[simp] theorem State.scrubP_scrubbed (s : State) : s.scrubP.scrubbed = s.scrubbed + 1 := rfl
@[simp] theorem State.scrubP_port (s : State) : s.scrubP.port = s.port := rfl

/-! ### State.recordTarget -/

@[simp] theorem State.recordTarget_level (s : State) (x y : Word16) : (s.recordTarget x y).level = s.level := rfl
@[simp] theorem State.recordTarget_owned (s : State) (x y : Word16) : (s.recordTarget x y).owned = s.owned := rfl
@[simp] theorem State.recordTarget_dir (s : State) (x y : Word16) : (s.recordTarget x y).dir = s.dir := rfl
@[simp] theorem State.recordTarget_w (s : State) (x y : Word16) : (s.recordTarget x y).w = s.w := rfl
@[simp] theorem State.recordTarget_upc (s : State) (x y : Word16) : (s.recordTarget x y).upc = s.upc := rfl
@[simp] theorem State.recordTarget_a (s : State) (x y : Word16) : (s.recordTarget x y).a = s.a := rfl
@[simp] theorem State.recordTarget_v (s : State) (x y : Word16) : (s.recordTarget x y).v = s.v := rfl
@[simp] theorem State.recordTarget_phase (s : State) (x y : Word16) : (s.recordTarget x y).phase = s.phase := rfl
@[simp] theorem State.recordTarget_p (s : State) (x y : Word16) : (s.recordTarget x y).p = s.p := rfl
@[simp] theorem State.recordTarget_tix (s : State) (x y : Word16) : (s.recordTarget x y).tix = s.tix := rfl
@[simp] theorem State.recordTarget_initDone (s : State) (x y : Word16) : (s.recordTarget x y).initDone = s.initDone := rfl
@[simp] theorem State.recordTarget_busy (s : State) (x y : Word16) : (s.recordTarget x y).busy = s.busy := rfl
@[simp] theorem State.recordTarget_trace (s : State) (x y : Word16) : (s.recordTarget x y).trace = s.trace := rfl
@[simp] theorem State.recordTarget_diag (s : State) (x y : Word16) : (s.recordTarget x y).diag = s.diag := rfl
@[simp] theorem State.recordTarget_client (s : State) (x y : Word16) : (s.recordTarget x y).client = s.client := rfl
@[simp] theorem State.recordTarget_history (s : State) (x y : Word16) : (s.recordTarget x y).history = s.history := rfl
@[simp] theorem State.recordTarget_target (s : State) (x y : Word16) : (s.recordTarget x y).target = s.target.write x.toNat y := rfl
@[simp] theorem State.recordTarget_params (s : State) (x y : Word16) : (s.recordTarget x y).params = s.params := rfl
@[simp] theorem State.recordTarget_answers (s : State) (x y : Word16) : (s.recordTarget x y).answers = s.answers := rfl
@[simp] theorem State.recordTarget_asked (s : State) (x y : Word16) : (s.recordTarget x y).asked = s.asked := rfl
@[simp] theorem State.recordTarget_draws (s : State) (x y : Word16) : (s.recordTarget x y).draws = s.draws := rfl
@[simp] theorem State.recordTarget_drawn (s : State) (x y : Word16) : (s.recordTarget x y).drawn = s.drawn := rfl
@[simp] theorem State.recordTarget_scrubbed (s : State) (x y : Word16) : (s.recordTarget x y).scrubbed = s.scrubbed := rfl
@[simp] theorem State.recordTarget_port (s : State) (x y : Word16) : (s.recordTarget x y).port = s.port := rfl

/-! ### beginSend -/

@[simp] theorem beginSend_level (s : State) (x : Word24) : (beginSend x s).level = s.level := rfl
@[simp] theorem beginSend_owned (s : State) (x : Word24) : (beginSend x s).owned = s.owned := rfl
@[simp] theorem beginSend_dir (s : State) (x : Word24) : (beginSend x s).dir = s.dir := rfl
@[simp] theorem beginSend_w (s : State) (x : Word24) : (beginSend x s).w = x := rfl
@[simp] theorem beginSend_upc (s : State) (x : Word24) : (beginSend x s).upc = some 0 := rfl
@[simp] theorem beginSend_a (s : State) (x : Word24) : (beginSend x s).a = s.a := rfl
@[simp] theorem beginSend_v (s : State) (x : Word24) : (beginSend x s).v = s.v := rfl
@[simp] theorem beginSend_phase (s : State) (x : Word24) : (beginSend x s).phase = s.phase := rfl
@[simp] theorem beginSend_p (s : State) (x : Word24) : (beginSend x s).p = s.p := rfl
@[simp] theorem beginSend_tix (s : State) (x : Word24) : (beginSend x s).tix = s.tix := rfl
@[simp] theorem beginSend_initDone (s : State) (x : Word24) : (beginSend x s).initDone = s.initDone := rfl
@[simp] theorem beginSend_busy (s : State) (x : Word24) : (beginSend x s).busy = s.busy := rfl
@[simp] theorem beginSend_trace (s : State) (x : Word24) : (beginSend x s).trace = s.trace := rfl
@[simp] theorem beginSend_diag (s : State) (x : Word24) : (beginSend x s).diag = s.diag := rfl
@[simp] theorem beginSend_client (s : State) (x : Word24) : (beginSend x s).client = s.client := rfl
@[simp] theorem beginSend_history (s : State) (x : Word24) : (beginSend x s).history = s.history := rfl
@[simp] theorem beginSend_target (s : State) (x : Word24) : (beginSend x s).target = s.target := rfl
@[simp] theorem beginSend_params (s : State) (x : Word24) : (beginSend x s).params = s.params := rfl
@[simp] theorem beginSend_answers (s : State) (x : Word24) : (beginSend x s).answers = s.answers := rfl
@[simp] theorem beginSend_asked (s : State) (x : Word24) : (beginSend x s).asked = s.asked := rfl
@[simp] theorem beginSend_draws (s : State) (x : Word24) : (beginSend x s).draws = s.draws := rfl
@[simp] theorem beginSend_drawn (s : State) (x : Word24) : (beginSend x s).drawn = s.drawn := rfl
@[simp] theorem beginSend_scrubbed (s : State) (x : Word24) : (beginSend x s).scrubbed = s.scrubbed := rfl
@[simp] theorem beginSend_port (s : State) (x : Word24) : (beginSend x s).port = s.port := rfl

/-! ### latchWrite -/

@[simp] theorem latchWrite_level (s : State) (x y : Word16) : (latchWrite x y s).level = s.level := rfl
@[simp] theorem latchWrite_owned (s : State) (x y : Word16) : (latchWrite x y s).owned = s.owned := rfl
@[simp] theorem latchWrite_dir (s : State) (x y : Word16) : (latchWrite x y s).dir = s.dir := rfl
@[simp] theorem latchWrite_w (s : State) (x y : Word16) : (latchWrite x y s).w = s.w := rfl
@[simp] theorem latchWrite_upc (s : State) (x y : Word16) : (latchWrite x y s).upc = s.upc := rfl
@[simp] theorem latchWrite_a (s : State) (x y : Word16) : (latchWrite x y s).a = x := rfl
@[simp] theorem latchWrite_v (s : State) (x y : Word16) : (latchWrite x y s).v = y := rfl
@[simp] theorem latchWrite_phase (s : State) (x y : Word16) : (latchWrite x y s).phase = .addr := rfl
@[simp] theorem latchWrite_p (s : State) (x y : Word16) : (latchWrite x y s).p = s.p := rfl
@[simp] theorem latchWrite_tix (s : State) (x y : Word16) : (latchWrite x y s).tix = s.tix := rfl
@[simp] theorem latchWrite_initDone (s : State) (x y : Word16) : (latchWrite x y s).initDone = s.initDone := rfl
@[simp] theorem latchWrite_busy (s : State) (x y : Word16) : (latchWrite x y s).busy = s.busy := rfl
@[simp] theorem latchWrite_trace (s : State) (x y : Word16) : (latchWrite x y s).trace = s.trace := rfl
@[simp] theorem latchWrite_diag (s : State) (x y : Word16) : (latchWrite x y s).diag = s.diag := rfl
@[simp] theorem latchWrite_client (s : State) (x y : Word16) : (latchWrite x y s).client = s.client := rfl
@[simp] theorem latchWrite_history (s : State) (x y : Word16) : (latchWrite x y s).history = s.history := rfl
@[simp] theorem latchWrite_target (s : State) (x y : Word16) : (latchWrite x y s).target = s.target := rfl
@[simp] theorem latchWrite_params (s : State) (x y : Word16) : (latchWrite x y s).params = s.params := rfl
@[simp] theorem latchWrite_answers (s : State) (x y : Word16) : (latchWrite x y s).answers = s.answers := rfl
@[simp] theorem latchWrite_asked (s : State) (x y : Word16) : (latchWrite x y s).asked = s.asked := rfl
@[simp] theorem latchWrite_draws (s : State) (x y : Word16) : (latchWrite x y s).draws = s.draws := rfl
@[simp] theorem latchWrite_drawn (s : State) (x y : Word16) : (latchWrite x y s).drawn = s.drawn := rfl
@[simp] theorem latchWrite_scrubbed (s : State) (x y : Word16) : (latchWrite x y s).scrubbed = s.scrubbed := rfl
@[simp] theorem latchWrite_port (s : State) (x y : Word16) : (latchWrite x y s).port = s.port := rfl

/-! ### enterData -/

@[simp] theorem enterData_level (s : State) : (enterData s).level = s.level := rfl
@[simp] theorem enterData_owned (s : State) : (enterData s).owned = s.owned := rfl
@[simp] theorem enterData_dir (s : State) : (enterData s).dir = s.dir := rfl
@[simp] theorem enterData_w (s : State) : (enterData s).w = s.w := rfl
@[simp] theorem enterData_upc (s : State) : (enterData s).upc = s.upc := rfl
@[simp] theorem enterData_a (s : State) : (enterData s).a = s.a := rfl
@[simp] theorem enterData_v (s : State) : (enterData s).v = s.v := rfl
@[simp] theorem enterData_phase (s : State) : (enterData s).phase = .data := rfl
@[simp] theorem enterData_p (s : State) : (enterData s).p = s.p := rfl
@[simp] theorem enterData_tix (s : State) : (enterData s).tix = s.tix := rfl
@[simp] theorem enterData_initDone (s : State) : (enterData s).initDone = s.initDone := rfl
@[simp] theorem enterData_busy (s : State) : (enterData s).busy = s.busy := rfl
@[simp] theorem enterData_trace (s : State) : (enterData s).trace = s.trace := rfl
@[simp] theorem enterData_diag (s : State) : (enterData s).diag = s.diag := rfl
@[simp] theorem enterData_client (s : State) : (enterData s).client = s.client := rfl
@[simp] theorem enterData_history (s : State) : (enterData s).history = s.history := rfl
@[simp] theorem enterData_target (s : State) : (enterData s).target = s.target := rfl
@[simp] theorem enterData_params (s : State) : (enterData s).params = s.params := rfl
@[simp] theorem enterData_answers (s : State) : (enterData s).answers = s.answers := rfl
@[simp] theorem enterData_asked (s : State) : (enterData s).asked = s.asked := rfl
@[simp] theorem enterData_draws (s : State) : (enterData s).draws = s.draws := rfl
@[simp] theorem enterData_drawn (s : State) : (enterData s).drawn = s.drawn := rfl
@[simp] theorem enterData_scrubbed (s : State) : (enterData s).scrubbed = s.scrubbed := rfl
@[simp] theorem enterData_port (s : State) : (enterData s).port = s.port := rfl

/-! ### finishWrite -/

@[simp] theorem finishWrite_level (s : State) : (finishWrite s).level = s.level := rfl
@[simp] theorem finishWrite_owned (s : State) : (finishWrite s).owned = s.owned := rfl
@[simp] theorem finishWrite_dir (s : State) : (finishWrite s).dir = s.dir := rfl
@[simp] theorem finishWrite_w (s : State) : (finishWrite s).w = s.w := rfl
@[simp] theorem finishWrite_upc (s : State) : (finishWrite s).upc = s.upc := rfl
@[simp] theorem finishWrite_a (s : State) : (finishWrite s).a = Config.idleA s.scrubbed := rfl
@[simp] theorem finishWrite_v (s : State) : (finishWrite s).v = Config.idleV s.scrubbed := rfl
@[simp] theorem finishWrite_phase (s : State) : (finishWrite s).phase = .none := rfl
@[simp] theorem finishWrite_p (s : State) : (finishWrite s).p = s.p := rfl
@[simp] theorem finishWrite_tix (s : State) : (finishWrite s).tix = s.tix := rfl
@[simp] theorem finishWrite_initDone (s : State) : (finishWrite s).initDone = s.initDone := rfl
@[simp] theorem finishWrite_busy (s : State) : (finishWrite s).busy = s.busy := rfl
@[simp] theorem finishWrite_trace (s : State) : (finishWrite s).trace = s.trace := rfl
@[simp] theorem finishWrite_diag (s : State) : (finishWrite s).diag = s.diag := rfl
@[simp] theorem finishWrite_client (s : State) : (finishWrite s).client = s.client := rfl
@[simp] theorem finishWrite_history (s : State) : (finishWrite s).history = s.history := rfl
@[simp] theorem finishWrite_target (s : State) : (finishWrite s).target = s.target.write s.a.toNat s.v := rfl
@[simp] theorem finishWrite_params (s : State) : (finishWrite s).params = s.params := rfl
@[simp] theorem finishWrite_answers (s : State) : (finishWrite s).answers = s.answers := rfl
@[simp] theorem finishWrite_asked (s : State) : (finishWrite s).asked = s.asked := rfl
@[simp] theorem finishWrite_draws (s : State) : (finishWrite s).draws = s.draws := rfl
@[simp] theorem finishWrite_drawn (s : State) : (finishWrite s).drawn = s.drawn := rfl
@[simp] theorem finishWrite_scrubbed (s : State) : (finishWrite s).scrubbed = s.scrubbed + 1 := rfl
@[simp] theorem finishWrite_port (s : State) : (finishWrite s).port = s.port := rfl

/-! ### latchPanel -/

@[simp] theorem latchPanel_level (s : State) (x : Word16) : (latchPanel x s).level = s.level := rfl
@[simp] theorem latchPanel_owned (s : State) (x : Word16) : (latchPanel x s).owned = s.owned := rfl
@[simp] theorem latchPanel_dir (s : State) (x : Word16) : (latchPanel x s).dir = s.dir := rfl
@[simp] theorem latchPanel_w (s : State) (x : Word16) : (latchPanel x s).w = s.w := rfl
@[simp] theorem latchPanel_upc (s : State) (x : Word16) : (latchPanel x s).upc = s.upc := rfl
@[simp] theorem latchPanel_a (s : State) (x : Word16) : (latchPanel x s).a = s.a := rfl
@[simp] theorem latchPanel_v (s : State) (x : Word16) : (latchPanel x s).v = s.v := rfl
@[simp] theorem latchPanel_phase (s : State) (x : Word16) : (latchPanel x s).phase = s.phase := rfl
@[simp] theorem latchPanel_p (s : State) (x : Word16) : (latchPanel x s).p = x := rfl
@[simp] theorem latchPanel_tix (s : State) (x : Word16) : (latchPanel x s).tix = 0 := rfl
@[simp] theorem latchPanel_initDone (s : State) (x : Word16) : (latchPanel x s).initDone = s.initDone := rfl
@[simp] theorem latchPanel_busy (s : State) (x : Word16) : (latchPanel x s).busy = s.busy := rfl
@[simp] theorem latchPanel_trace (s : State) (x : Word16) : (latchPanel x s).trace = s.trace := rfl
@[simp] theorem latchPanel_diag (s : State) (x : Word16) : (latchPanel x s).diag = s.diag := rfl
@[simp] theorem latchPanel_client (s : State) (x : Word16) : (latchPanel x s).client = .panel := rfl
@[simp] theorem latchPanel_history (s : State) (x : Word16) : (latchPanel x s).history = s.history := rfl
@[simp] theorem latchPanel_target (s : State) (x : Word16) : (latchPanel x s).target = s.target := rfl
@[simp] theorem latchPanel_params (s : State) (x : Word16) : (latchPanel x s).params = s.params := rfl
@[simp] theorem latchPanel_answers (s : State) (x : Word16) : (latchPanel x s).answers = s.answers := rfl
@[simp] theorem latchPanel_asked (s : State) (x : Word16) : (latchPanel x s).asked = s.asked := rfl
@[simp] theorem latchPanel_draws (s : State) (x : Word16) : (latchPanel x s).draws = s.draws := rfl
@[simp] theorem latchPanel_drawn (s : State) (x : Word16) : (latchPanel x s).drawn = s.drawn := rfl
@[simp] theorem latchPanel_scrubbed (s : State) (x : Word16) : (latchPanel x s).scrubbed = s.scrubbed := rfl
@[simp] theorem latchPanel_port (s : State) (x : Word16) : (latchPanel x s).port = s.port := rfl

/-! ### advanceTix -/

@[simp] theorem advanceTix_level (s : State) : (advanceTix s).level = s.level := rfl
@[simp] theorem advanceTix_owned (s : State) : (advanceTix s).owned = s.owned := rfl
@[simp] theorem advanceTix_dir (s : State) : (advanceTix s).dir = s.dir := rfl
@[simp] theorem advanceTix_w (s : State) : (advanceTix s).w = s.w := rfl
@[simp] theorem advanceTix_upc (s : State) : (advanceTix s).upc = s.upc := rfl
@[simp] theorem advanceTix_a (s : State) : (advanceTix s).a = s.a := rfl
@[simp] theorem advanceTix_v (s : State) : (advanceTix s).v = s.v := rfl
@[simp] theorem advanceTix_phase (s : State) : (advanceTix s).phase = s.phase := rfl
@[simp] theorem advanceTix_p (s : State) : (advanceTix s).p = s.p := rfl
@[simp] theorem advanceTix_tix (s : State) : (advanceTix s).tix = s.tix + 1 := rfl
@[simp] theorem advanceTix_initDone (s : State) : (advanceTix s).initDone = s.initDone := rfl
@[simp] theorem advanceTix_busy (s : State) : (advanceTix s).busy = s.busy := rfl
@[simp] theorem advanceTix_trace (s : State) : (advanceTix s).trace = s.trace := rfl
@[simp] theorem advanceTix_diag (s : State) : (advanceTix s).diag = s.diag := rfl
@[simp] theorem advanceTix_client (s : State) : (advanceTix s).client = s.client := rfl
@[simp] theorem advanceTix_history (s : State) : (advanceTix s).history = s.history := rfl
@[simp] theorem advanceTix_target (s : State) : (advanceTix s).target = s.target := rfl
@[simp] theorem advanceTix_params (s : State) : (advanceTix s).params = s.params := rfl
@[simp] theorem advanceTix_answers (s : State) : (advanceTix s).answers = s.answers := rfl
@[simp] theorem advanceTix_asked (s : State) : (advanceTix s).asked = s.asked := rfl
@[simp] theorem advanceTix_draws (s : State) : (advanceTix s).draws = s.draws := rfl
@[simp] theorem advanceTix_drawn (s : State) : (advanceTix s).drawn = s.drawn := rfl
@[simp] theorem advanceTix_scrubbed (s : State) : (advanceTix s).scrubbed = s.scrubbed := rfl
@[simp] theorem advanceTix_port (s : State) : (advanceTix s).port = s.port := rfl

/-! ### finishPanel -/

@[simp] theorem finishPanel_level (s : State) : (finishPanel s).level = s.level := rfl
@[simp] theorem finishPanel_owned (s : State) : (finishPanel s).owned = s.owned := rfl
@[simp] theorem finishPanel_dir (s : State) : (finishPanel s).dir = s.dir := rfl
@[simp] theorem finishPanel_w (s : State) : (finishPanel s).w = s.w := rfl
@[simp] theorem finishPanel_upc (s : State) : (finishPanel s).upc = s.upc := rfl
@[simp] theorem finishPanel_a (s : State) : (finishPanel s).a = s.a := rfl
@[simp] theorem finishPanel_v (s : State) : (finishPanel s).v = s.v := rfl
@[simp] theorem finishPanel_phase (s : State) : (finishPanel s).phase = s.phase := rfl
@[simp] theorem finishPanel_p (s : State) : (finishPanel s).p = Config.idleP s.scrubbed := rfl
@[simp] theorem finishPanel_tix (s : State) : (finishPanel s).tix = 0 := rfl
@[simp] theorem finishPanel_initDone (s : State) : (finishPanel s).initDone = s.initDone := rfl
@[simp] theorem finishPanel_busy (s : State) : (finishPanel s).busy = s.busy := rfl
@[simp] theorem finishPanel_trace (s : State) : (finishPanel s).trace = s.trace := rfl
@[simp] theorem finishPanel_diag (s : State) : (finishPanel s).diag = s.diag := rfl
@[simp] theorem finishPanel_client (s : State) : (finishPanel s).client = .idle := rfl
@[simp] theorem finishPanel_history (s : State) : (finishPanel s).history = s.history := rfl
@[simp] theorem finishPanel_target (s : State) : (finishPanel s).target = s.target := rfl
@[simp] theorem finishPanel_params (s : State) : (finishPanel s).params = s.params := rfl
@[simp] theorem finishPanel_answers (s : State) : (finishPanel s).answers = s.answers := rfl
@[simp] theorem finishPanel_asked (s : State) : (finishPanel s).asked = s.asked := rfl
@[simp] theorem finishPanel_draws (s : State) : (finishPanel s).draws = s.draws := rfl
@[simp] theorem finishPanel_drawn (s : State) : (finishPanel s).drawn = s.drawn := rfl
@[simp] theorem finishPanel_scrubbed (s : State) : (finishPanel s).scrubbed = s.scrubbed + 1 := rfl
@[simp] theorem finishPanel_port (s : State) : (finishPanel s).port = s.port := rfl

/-! ### markInit -/

@[simp] theorem markInit_level (s : State) : (markInit s).level = s.level := rfl
@[simp] theorem markInit_owned (s : State) : (markInit s).owned = s.owned := rfl
@[simp] theorem markInit_dir (s : State) : (markInit s).dir = s.dir := rfl
@[simp] theorem markInit_w (s : State) : (markInit s).w = s.w := rfl
@[simp] theorem markInit_upc (s : State) : (markInit s).upc = s.upc := rfl
@[simp] theorem markInit_a (s : State) : (markInit s).a = s.a := rfl
@[simp] theorem markInit_v (s : State) : (markInit s).v = s.v := rfl
@[simp] theorem markInit_phase (s : State) : (markInit s).phase = s.phase := rfl
@[simp] theorem markInit_p (s : State) : (markInit s).p = s.p := rfl
@[simp] theorem markInit_tix (s : State) : (markInit s).tix = s.tix := rfl
@[simp] theorem markInit_initDone (s : State) : (markInit s).initDone = true := rfl
@[simp] theorem markInit_busy (s : State) : (markInit s).busy = s.busy := rfl
@[simp] theorem markInit_trace (s : State) : (markInit s).trace = s.trace := rfl
@[simp] theorem markInit_diag (s : State) : (markInit s).diag = s.diag := rfl
@[simp] theorem markInit_client (s : State) : (markInit s).client = s.client := rfl
@[simp] theorem markInit_history (s : State) : (markInit s).history = s.history := rfl
@[simp] theorem markInit_target (s : State) : (markInit s).target = s.target := rfl
@[simp] theorem markInit_params (s : State) : (markInit s).params = s.params := rfl
@[simp] theorem markInit_answers (s : State) : (markInit s).answers = s.answers := rfl
@[simp] theorem markInit_asked (s : State) : (markInit s).asked = s.asked := rfl
@[simp] theorem markInit_draws (s : State) : (markInit s).draws = s.draws := rfl
@[simp] theorem markInit_drawn (s : State) : (markInit s).drawn = s.drawn := rfl
@[simp] theorem markInit_scrubbed (s : State) : (markInit s).scrubbed = s.scrubbed := rfl
@[simp] theorem markInit_port (s : State) : (markInit s).port = s.port := rfl

/-! ### returnToHost -/

@[simp] theorem returnToHost_level (s : State) : (returnToHost s).level = s.level := rfl
@[simp] theorem returnToHost_owned (s : State) : (returnToHost s).owned = s.owned := rfl
@[simp] theorem returnToHost_dir (s : State) : (returnToHost s).dir = s.dir := rfl
@[simp] theorem returnToHost_w (s : State) : (returnToHost s).w = s.w := rfl
@[simp] theorem returnToHost_upc (s : State) : (returnToHost s).upc = s.upc := rfl
@[simp] theorem returnToHost_a (s : State) : (returnToHost s).a = s.a := rfl
@[simp] theorem returnToHost_v (s : State) : (returnToHost s).v = s.v := rfl
@[simp] theorem returnToHost_phase (s : State) : (returnToHost s).phase = s.phase := rfl
@[simp] theorem returnToHost_p (s : State) : (returnToHost s).p = s.p := rfl
@[simp] theorem returnToHost_tix (s : State) : (returnToHost s).tix = s.tix := rfl
@[simp] theorem returnToHost_initDone (s : State) : (returnToHost s).initDone = s.initDone := rfl
@[simp] theorem returnToHost_busy (s : State) : (returnToHost s).busy = false := rfl
@[simp] theorem returnToHost_trace (s : State) : (returnToHost s).trace = s.trace := rfl
@[simp] theorem returnToHost_diag (s : State) : (returnToHost s).diag = s.diag := rfl
@[simp] theorem returnToHost_client (s : State) : (returnToHost s).client = s.client := rfl
@[simp] theorem returnToHost_history (s : State) : (returnToHost s).history = s.history := rfl
@[simp] theorem returnToHost_target (s : State) : (returnToHost s).target = s.target := rfl
@[simp] theorem returnToHost_params (s : State) : (returnToHost s).params = s.params := rfl
@[simp] theorem returnToHost_answers (s : State) : (returnToHost s).answers = s.answers := rfl
@[simp] theorem returnToHost_asked (s : State) : (returnToHost s).asked = s.asked := rfl
@[simp] theorem returnToHost_draws (s : State) : (returnToHost s).draws = s.draws := rfl
@[simp] theorem returnToHost_drawn (s : State) : (returnToHost s).drawn = s.drawn := rfl
@[simp] theorem returnToHost_scrubbed (s : State) : (returnToHost s).scrubbed = s.scrubbed := rfl
@[simp] theorem returnToHost_port (s : State) : (returnToHost s).port = s.port := rfl

/-! ### State.raiseBusy -/

@[simp] theorem State.raiseBusy_level (s : State) : s.raiseBusy.level = s.level := rfl
@[simp] theorem State.raiseBusy_owned (s : State) : s.raiseBusy.owned = s.owned := rfl
@[simp] theorem State.raiseBusy_dir (s : State) : s.raiseBusy.dir = s.dir := rfl
@[simp] theorem State.raiseBusy_w (s : State) : s.raiseBusy.w = s.w := rfl
@[simp] theorem State.raiseBusy_upc (s : State) : s.raiseBusy.upc = s.upc := rfl
@[simp] theorem State.raiseBusy_a (s : State) : s.raiseBusy.a = s.a := rfl
@[simp] theorem State.raiseBusy_v (s : State) : s.raiseBusy.v = s.v := rfl
@[simp] theorem State.raiseBusy_phase (s : State) : s.raiseBusy.phase = s.phase := rfl
@[simp] theorem State.raiseBusy_p (s : State) : s.raiseBusy.p = s.p := rfl
@[simp] theorem State.raiseBusy_tix (s : State) : s.raiseBusy.tix = s.tix := rfl
@[simp] theorem State.raiseBusy_initDone (s : State) : s.raiseBusy.initDone = s.initDone := rfl
@[simp] theorem State.raiseBusy_busy (s : State) : s.raiseBusy.busy = true := rfl
@[simp] theorem State.raiseBusy_trace (s : State) : s.raiseBusy.trace = s.trace := rfl
@[simp] theorem State.raiseBusy_diag (s : State) : s.raiseBusy.diag = s.diag := rfl
@[simp] theorem State.raiseBusy_client (s : State) : s.raiseBusy.client = s.client := rfl
@[simp] theorem State.raiseBusy_history (s : State) : s.raiseBusy.history = s.history := rfl
@[simp] theorem State.raiseBusy_target (s : State) : s.raiseBusy.target = s.target := rfl
@[simp] theorem State.raiseBusy_params (s : State) : s.raiseBusy.params = s.params := rfl
@[simp] theorem State.raiseBusy_answers (s : State) : s.raiseBusy.answers = s.answers := rfl
@[simp] theorem State.raiseBusy_asked (s : State) : s.raiseBusy.asked = s.asked := rfl
@[simp] theorem State.raiseBusy_draws (s : State) : s.raiseBusy.draws = s.draws := rfl
@[simp] theorem State.raiseBusy_drawn (s : State) : s.raiseBusy.drawn = s.drawn := rfl
@[simp] theorem State.raiseBusy_scrubbed (s : State) : s.raiseBusy.scrubbed = s.scrubbed := rfl
@[simp] theorem State.raiseBusy_port (s : State) : s.raiseBusy.port = s.port := rfl

/-! ### State.atMicro -/

@[simp] theorem State.atMicro_level (s : State) (u : Option (Fin 79)) :
    (s.atMicro u).level = s.level := rfl
@[simp] theorem State.atMicro_owned (s : State) (u : Option (Fin 79)) :
    (s.atMicro u).owned = s.owned := rfl
@[simp] theorem State.atMicro_dir (s : State) (u : Option (Fin 79)) :
    (s.atMicro u).dir = s.dir := rfl
@[simp] theorem State.atMicro_w (s : State) (u : Option (Fin 79)) : (s.atMicro u).w = s.w := rfl
@[simp] theorem State.atMicro_upc (s : State) (u : Option (Fin 79)) : (s.atMicro u).upc = u := rfl
@[simp] theorem State.atMicro_a (s : State) (u : Option (Fin 79)) : (s.atMicro u).a = s.a := rfl
@[simp] theorem State.atMicro_v (s : State) (u : Option (Fin 79)) : (s.atMicro u).v = s.v := rfl
@[simp] theorem State.atMicro_phase (s : State) (u : Option (Fin 79)) :
    (s.atMicro u).phase = s.phase := rfl
@[simp] theorem State.atMicro_p (s : State) (u : Option (Fin 79)) : (s.atMicro u).p = s.p := rfl
@[simp] theorem State.atMicro_tix (s : State) (u : Option (Fin 79)) :
    (s.atMicro u).tix = s.tix := rfl
@[simp] theorem State.atMicro_initDone (s : State) (u : Option (Fin 79)) :
    (s.atMicro u).initDone = s.initDone := rfl
@[simp] theorem State.atMicro_busy (s : State) (u : Option (Fin 79)) :
    (s.atMicro u).busy = s.busy := rfl
@[simp] theorem State.atMicro_trace (s : State) (u : Option (Fin 79)) :
    (s.atMicro u).trace = s.trace := rfl
@[simp] theorem State.atMicro_diag (s : State) (u : Option (Fin 79)) :
    (s.atMicro u).diag = s.diag := rfl
@[simp] theorem State.atMicro_client (s : State) (u : Option (Fin 79)) :
    (s.atMicro u).client = s.client := rfl
@[simp] theorem State.atMicro_history (s : State) (u : Option (Fin 79)) :
    (s.atMicro u).history = s.history := rfl
@[simp] theorem State.atMicro_target (s : State) (u : Option (Fin 79)) :
    (s.atMicro u).target = s.target := rfl
@[simp] theorem State.atMicro_params (s : State) (u : Option (Fin 79)) :
    (s.atMicro u).params = s.params := rfl
@[simp] theorem State.atMicro_answers (s : State) (u : Option (Fin 79)) :
    (s.atMicro u).answers = s.answers := rfl
@[simp] theorem State.atMicro_asked (s : State) (u : Option (Fin 79)) :
    (s.atMicro u).asked = s.asked := rfl
@[simp] theorem State.atMicro_draws (s : State) (u : Option (Fin 79)) :
    (s.atMicro u).draws = s.draws := rfl
@[simp] theorem State.atMicro_drawn (s : State) (u : Option (Fin 79)) :
    (s.atMicro u).drawn = s.drawn := rfl
@[simp] theorem State.atMicro_scrubbed (s : State) (u : Option (Fin 79)) :
    (s.atMicro u).scrubbed = s.scrubbed := rfl
@[simp] theorem State.atMicro_port (s : State) (u : Option (Fin 79)) :
    (s.atMicro u).port = s.port := rfl

/-! ### State.atClient -/

@[simp] theorem State.atClient_level (s : State) (c : Client) :
    (s.atClient c).level = s.level := rfl
@[simp] theorem State.atClient_owned (s : State) (c : Client) :
    (s.atClient c).owned = s.owned := rfl
@[simp] theorem State.atClient_dir (s : State) (c : Client) : (s.atClient c).dir = s.dir := rfl
@[simp] theorem State.atClient_w (s : State) (c : Client) : (s.atClient c).w = s.w := rfl
@[simp] theorem State.atClient_upc (s : State) (c : Client) : (s.atClient c).upc = s.upc := rfl
@[simp] theorem State.atClient_a (s : State) (c : Client) : (s.atClient c).a = s.a := rfl
@[simp] theorem State.atClient_v (s : State) (c : Client) : (s.atClient c).v = s.v := rfl
@[simp] theorem State.atClient_phase (s : State) (c : Client) :
    (s.atClient c).phase = s.phase := rfl
@[simp] theorem State.atClient_p (s : State) (c : Client) : (s.atClient c).p = s.p := rfl
@[simp] theorem State.atClient_tix (s : State) (c : Client) : (s.atClient c).tix = s.tix := rfl
@[simp] theorem State.atClient_initDone (s : State) (c : Client) :
    (s.atClient c).initDone = s.initDone := rfl
@[simp] theorem State.atClient_busy (s : State) (c : Client) : (s.atClient c).busy = s.busy := rfl
@[simp] theorem State.atClient_trace (s : State) (c : Client) :
    (s.atClient c).trace = s.trace := rfl
@[simp] theorem State.atClient_diag (s : State) (c : Client) : (s.atClient c).diag = s.diag := rfl
@[simp] theorem State.atClient_client (s : State) (c : Client) : (s.atClient c).client = c := rfl
@[simp] theorem State.atClient_history (s : State) (c : Client) :
    (s.atClient c).history = s.history := rfl
@[simp] theorem State.atClient_target (s : State) (c : Client) :
    (s.atClient c).target = s.target := rfl
@[simp] theorem State.atClient_params (s : State) (c : Client) :
    (s.atClient c).params = s.params := rfl
@[simp] theorem State.atClient_answers (s : State) (c : Client) :
    (s.atClient c).answers = s.answers := rfl
@[simp] theorem State.atClient_asked (s : State) (c : Client) :
    (s.atClient c).asked = s.asked := rfl
@[simp] theorem State.atClient_draws (s : State) (c : Client) :
    (s.atClient c).draws = s.draws := rfl
@[simp] theorem State.atClient_drawn (s : State) (c : Client) :
    (s.atClient c).drawn = s.drawn := rfl
@[simp] theorem State.atClient_scrubbed (s : State) (c : Client) :
    (s.atClient c).scrubbed = s.scrubbed := rfl
@[simp] theorem State.atClient_port (s : State) (c : Client) : (s.atClient c).port = s.port := rfl

/-! ### State.withPort -/

@[simp] theorem State.withPort_level (s : State) (rest : List PortItem) :
    (s.withPort rest).level = s.level := rfl
@[simp] theorem State.withPort_owned (s : State) (rest : List PortItem) :
    (s.withPort rest).owned = s.owned := rfl
@[simp] theorem State.withPort_dir (s : State) (rest : List PortItem) :
    (s.withPort rest).dir = s.dir := rfl
@[simp] theorem State.withPort_w (s : State) (rest : List PortItem) :
    (s.withPort rest).w = s.w := rfl
@[simp] theorem State.withPort_upc (s : State) (rest : List PortItem) :
    (s.withPort rest).upc = s.upc := rfl
@[simp] theorem State.withPort_a (s : State) (rest : List PortItem) :
    (s.withPort rest).a = s.a := rfl
@[simp] theorem State.withPort_v (s : State) (rest : List PortItem) :
    (s.withPort rest).v = s.v := rfl
@[simp] theorem State.withPort_phase (s : State) (rest : List PortItem) :
    (s.withPort rest).phase = s.phase := rfl
@[simp] theorem State.withPort_p (s : State) (rest : List PortItem) :
    (s.withPort rest).p = s.p := rfl
@[simp] theorem State.withPort_tix (s : State) (rest : List PortItem) :
    (s.withPort rest).tix = s.tix := rfl
@[simp] theorem State.withPort_initDone (s : State) (rest : List PortItem) :
    (s.withPort rest).initDone = s.initDone := rfl
@[simp] theorem State.withPort_busy (s : State) (rest : List PortItem) :
    (s.withPort rest).busy = s.busy := rfl
@[simp] theorem State.withPort_trace (s : State) (rest : List PortItem) :
    (s.withPort rest).trace = s.trace := rfl
@[simp] theorem State.withPort_diag (s : State) (rest : List PortItem) :
    (s.withPort rest).diag = s.diag := rfl
@[simp] theorem State.withPort_client (s : State) (rest : List PortItem) :
    (s.withPort rest).client = s.client := rfl
@[simp] theorem State.withPort_history (s : State) (rest : List PortItem) :
    (s.withPort rest).history = s.history := rfl
@[simp] theorem State.withPort_target (s : State) (rest : List PortItem) :
    (s.withPort rest).target = s.target := rfl
@[simp] theorem State.withPort_params (s : State) (rest : List PortItem) :
    (s.withPort rest).params = s.params := rfl
@[simp] theorem State.withPort_answers (s : State) (rest : List PortItem) :
    (s.withPort rest).answers = s.answers := rfl
@[simp] theorem State.withPort_asked (s : State) (rest : List PortItem) :
    (s.withPort rest).asked = s.asked := rfl
@[simp] theorem State.withPort_draws (s : State) (rest : List PortItem) :
    (s.withPort rest).draws = s.draws := rfl
@[simp] theorem State.withPort_drawn (s : State) (rest : List PortItem) :
    (s.withPort rest).drawn = s.drawn := rfl
@[simp] theorem State.withPort_scrubbed (s : State) (rest : List PortItem) :
    (s.withPort rest).scrubbed = s.scrubbed := rfl
@[simp] theorem State.withPort_port (s : State) (rest : List PortItem) :
    (s.withPort rest).port = rest := rfl

/-! ### State.withPins -/

@[simp] theorem State.withPins_level (s : State) (pins : PerLine Nat) :
    (s.withPins pins).level = s.level := rfl
@[simp] theorem State.withPins_owned (s : State) (pins : PerLine Nat) :
    (s.withPins pins).owned = s.owned := rfl
@[simp] theorem State.withPins_dir (s : State) (pins : PerLine Nat) :
    (s.withPins pins).dir = s.dir := rfl
@[simp] theorem State.withPins_w (s : State) (pins : PerLine Nat) : (s.withPins pins).w = s.w := rfl
@[simp] theorem State.withPins_upc (s : State) (pins : PerLine Nat) :
    (s.withPins pins).upc = s.upc := rfl
@[simp] theorem State.withPins_a (s : State) (pins : PerLine Nat) : (s.withPins pins).a = s.a := rfl
@[simp] theorem State.withPins_v (s : State) (pins : PerLine Nat) : (s.withPins pins).v = s.v := rfl
@[simp] theorem State.withPins_phase (s : State) (pins : PerLine Nat) :
    (s.withPins pins).phase = s.phase := rfl
@[simp] theorem State.withPins_p (s : State) (pins : PerLine Nat) : (s.withPins pins).p = s.p := rfl
@[simp] theorem State.withPins_tix (s : State) (pins : PerLine Nat) :
    (s.withPins pins).tix = s.tix := rfl
@[simp] theorem State.withPins_initDone (s : State) (pins : PerLine Nat) :
    (s.withPins pins).initDone = s.initDone := rfl
@[simp] theorem State.withPins_busy (s : State) (pins : PerLine Nat) :
    (s.withPins pins).busy = s.busy := rfl
@[simp] theorem State.withPins_trace (s : State) (pins : PerLine Nat) :
    (s.withPins pins).trace = s.trace := rfl
@[simp] theorem State.withPins_diag (s : State) (pins : PerLine Nat) :
    (s.withPins pins).diag = s.diag := rfl
@[simp] theorem State.withPins_client (s : State) (pins : PerLine Nat) :
    (s.withPins pins).client = s.client := rfl
@[simp] theorem State.withPins_history (s : State) (pins : PerLine Nat) :
    (s.withPins pins).history = s.history := rfl
@[simp] theorem State.withPins_target (s : State) (pins : PerLine Nat) :
    (s.withPins pins).target = s.target := rfl
@[simp] theorem State.withPins_params (s : State) (pins : PerLine Nat) :
    (s.withPins pins).params = { s.params with pins := pins } := rfl
@[simp] theorem State.withPins_answers (s : State) (pins : PerLine Nat) :
    (s.withPins pins).answers = s.answers := rfl
@[simp] theorem State.withPins_asked (s : State) (pins : PerLine Nat) :
    (s.withPins pins).asked = s.asked := rfl
@[simp] theorem State.withPins_draws (s : State) (pins : PerLine Nat) :
    (s.withPins pins).draws = s.draws := rfl
@[simp] theorem State.withPins_drawn (s : State) (pins : PerLine Nat) :
    (s.withPins pins).drawn = s.drawn := rfl
@[simp] theorem State.withPins_scrubbed (s : State) (pins : PerLine Nat) :
    (s.withPins pins).scrubbed = s.scrubbed := rfl
@[simp] theorem State.withPins_port (s : State) (pins : PerLine Nat) :
    (s.withPins pins).port = s.port := rfl

end Sys2Proof.Machine
end

