-- ==== Sys2Proof/Laws/Ops.lean ====
section
/-! SUPPORT. For each shared operation, once, everything it does. -/

namespace Sys2Proof

theorem PerLine.get_set {α : Type} (x : PerLine α) (l l' : Line) (b : α) :
    (x.set l b).get l' = if l' = l then b else x.get l' := by
  cases l <;> cases l' <;> rfl

@[simp] theorem PerLine.get_set_same {α : Type} (x : PerLine α) (l : Line) (b : α) :
    (x.set l b).get l = b := by cases l <;> rfl

theorem PerLine.get_set_of_ne {α : Type} (x : PerLine α) {l l' : Line} (b : α) (h : l' ≠ l) :
    (x.set l b).get l' = x.get l' := by rw [PerLine.get_set, if_neg h]

namespace Machine

/-! ### The environment -/

@[simp] theorem State.okAt_popOk (s : State) (k : Nat) : s.popOk.okAt k = s.okAt (k + 1) := by
  simp [State.okAt, State.popOk, Nat.add_right_comm, Nat.add_assoc]

@[simp] theorem State.drawAt_popDraw (s : State) (k : Nat) : s.popDraw.drawAt k = s.drawAt (k + 1) := by
  simp [State.drawAt, State.popDraw, Nat.add_right_comm, Nat.add_assoc]

/-- What the environment answers depends on its list and counter alone. -/
theorem State.okAt_congr {s t : State} (h1 : s.answers = t.answers) (h2 : s.asked = t.asked) (k : Nat) :
    s.okAt k = t.okAt k := by simp [State.okAt, h1, h2]

/-! ### The attempts -/

/-- Everything an export does (R60). -/
theorem lineExport_eq (l : Line) (s : State) :
    lineExport l s = { s with
      owned := if s.okAt 0 then s.owned.set l true else s.owned
      diag := if s.okAt 0 then s.diag else s.diag ++ [⟨.diagExport, l⟩]
      trace := s.trace ++ [.evExport l (s.okAt 0)]
      history := s.history ++ [s.level]
      answers := s.answers.tail
      asked := s.asked + 1 } := by
  unfold lineExport
  cases h : s.okAt 0 <;> simp [State.popOk, State.own, State.logFailure, State.emit]

/-- Everything a direction set does (R61). -/
theorem lineSetDir_eq (l : Line) (d : Dir) (s : State) :
    lineSetDir l d s =
      (let ok := s.owned.get l && s.okAt 0
       let level := if ok then s.level.set l (s.drawAt 0) else s.level
       { s with
          dir := if ok then s.dir.set l d else s.dir
          level := level
          draws := if ok then s.draws.tail else s.draws
          drawn := if ok then s.drawn + 1 else s.drawn
          diag := if ok then s.diag else s.diag ++ [⟨.diagDir, l⟩]
          trace := s.trace ++ [.evDir l d ok]
          history := s.history ++ [level]
          answers := s.answers.tail
          asked := s.asked + 1 }) := by
  unfold lineSetDir
  cases h : (s.owned.get l && s.okAt 0) <;>
    simp [State.popOk, State.popDraw, State.setDir, State.drive, State.logFailure, State.emit, State.drawAt]

/-- Everything a level write does (R62). -/
theorem lineWrite_eq (l : Line) (b : Level) (s : State) :
    lineWrite l b s =
      (let eff := s.owned.get l && s.dir.get l != .input && s.okAt 0
       let level := if eff then s.level.set l b else s.level
       { s with
          level := level
          diag := if eff then s.diag else s.diag ++ [⟨.diagWrite, l⟩]
          trace := s.trace ++ [.evWrite l b eff]
          history := s.history ++ [level]
          answers := s.answers.tail
          asked := s.asked + 1 }) := by
  unfold lineWrite
  cases h : (s.owned.get l && s.dir.get l != .input && s.okAt 0) <;>
    simp [State.popOk, State.drive, State.logFailure, State.emit]

/-- Everything the settle delay does (R73). -/
theorem settle_eq (s : State) :
    settle s = { s with trace := s.trace ++ [.evDelay], history := s.history ++ [s.level] } := rfl

/-! ### The port -/

/-- An issue at a ready port runs the operation to its return. -/
theorem issue_ready {s : State} (h : s.busy = false) (body : State → State) :
    issue body s = .next (returnToHost (body s.raiseBusy)) := by
  simp [issue, h]

/-- An issue at a busy port is refused. -/
theorem issue_busy {s : State} (h : s.busy = true) (body : State → State) :
    issue body s = .refused .portNotReady := by
  simp [issue, h]

/-- All that an issue that answers a next state can have done. -/
theorem issue_next {s t : State} {body : State → State} (h : issue body s = .next t) :
    s.busy = false ∧ t = returnToHost (body s.raiseBusy) := by
  cases hb : s.busy with
  | true => simp [issue, hb] at h
  | false =>
    rw [issue_ready hb, Host.Outcome.next.injEq] at h
    exact ⟨rfl, h.symm⟩

/-- The operation body of each instruction: what `exec` runs between the issue and the return. -/
def bodyOf : Instr → State → State
  | .exportLine l => lineExport l
  | .setdirIn l => lineSetDir l .input
  | .setdirOut l => lineSetDir l .output
  | .wrlevel0 l => lineWrite l false
  | .wrlevel1 l => lineWrite l true
  | .transmit w => sendWord w
  | .writereg a v => writeReg a v
  | .initpanel p => bringUp p
  | .setdisplay b c => displayBody b c
  | .frameAddr a => sendWord (addrFrame a)
  | .frameData v => sendWord (dataFrame v)
  | .frameRaw w => sendWord w

/-- Every operation is an issue of its body. -/
theorem exec_eq_issue (i : Instr) (s : State) : exec i s = issue (bodyOf i) s := by
  cases i <;> rfl

end Machine

end Sys2Proof
end

