-- ==== Sys2Proof/Laws/Actions.lean ====
section
/-! SUPPORT. Lists of micro-actions: a transmission is the script of R71, and what running any list of
actions does to each part of the state. -/

namespace Sys2Proof.Machine

/-! ### A transmission is its script -/

/-- The table of R71 and the pseudocode of R70 are the same list of actions. -/
theorem transmitScript_eq_table (w : Word24) :
    transmitScript w = (List.range 79).map (microAction w) := rfl

/-- The action of micro-step `u` is the script's entry `u`. -/
theorem transmitScript_getElem? (w : Word24) (u : Fin 79) :
    (transmitScript w)[u.val]? = some (microAction w u.val) := by
  rw [transmitScript_eq_table]
  simp [u.isLt]

/-- An action neither reads nor writes the serializer's latch and position. -/
theorem perform_latch (m : MicroAction) (s : State) (w : Word24) (u : Option (Fin 79)) :
    perform m { s with w := w, upc := u } = { perform m s with w := w, upc := u } := by
  cases m with
  | delay => rfl
  | write l b => simp only [perform, lineWrite_eq]; rfl

/-- `k` micro-steps of a transmission perform the first `k` actions and leave `upc` at `k`. -/
theorem microStep_iterate (w : Word24) (s : State) (k : Nat) (hk : k ≤ 79) :
    microStep^[k] (beginSend w s) =
      { runActions ((List.range k).map (microAction w)) s with
        w := w, upc := if h : k < 79 then some ⟨k, h⟩ else none } := by
  induction k with
  | zero => rfl
  | succ k ih =>
    have hk' : k < 79 := hk
    rw [Function.iterate_succ_apply', ih hk'.le, List.range_succ]
    simp only [microStep, hk', dif_pos, perform_latch, runActions, List.map_append, List.map_cons,
      List.map_nil, List.foldl_append, List.foldl_cons, List.foldl_nil, nextUpc, State.atMicro]

/-! ### Running a list of actions -/

@[simp] theorem runActions_nil (s : State) : runActions [] s = s := rfl

@[simp] theorem runActions_cons (m : MicroAction) (ms : List MicroAction) (s : State) :
    runActions (m :: ms) s = runActions ms (perform m s) := rfl

theorem runActions_append (ms ns : List MicroAction) (s : State) :
    runActions (ms ++ ns) s = runActions ns (runActions ms s) := by
  simp [runActions, List.foldl_append]

/-- The action is a level write. -/
def MicroAction.isWrite : MicroAction → Bool
  | .write _ _ => true
  | .delay => false

/-- How many attempts a list of actions makes. -/
def attemptsIn (ms : List MicroAction) : Nat := ms.countP MicroAction.isWrite

@[simp] theorem attemptsIn_nil : attemptsIn [] = 0 := rfl

@[simp] theorem attemptsIn_write (l : Line) (b : Level) (ms : List MicroAction) :
    attemptsIn (.write l b :: ms) = attemptsIn ms + 1 :=
  List.countP_cons_of_pos rfl

@[simp] theorem attemptsIn_delay (ms : List MicroAction) :
    attemptsIn (.delay :: ms) = attemptsIn ms :=
  List.countP_cons_of_neg (by decide)

/-- The parts of the state that actions never touch. -/
structure SameButLines (s t : State) : Prop where
  owned : t.owned = s.owned
  dir : t.dir = s.dir
  w : t.w = s.w
  upc : t.upc = s.upc
  a : t.a = s.a
  v : t.v = s.v
  phase : t.phase = s.phase
  p : t.p = s.p
  tix : t.tix = s.tix
  initDone : t.initDone = s.initDone
  busy : t.busy = s.busy
  client : t.client = s.client
  target : t.target = s.target
  params : t.params = s.params
  draws : t.draws = s.draws
  drawn : t.drawn = s.drawn
  scrubbed : t.scrubbed = s.scrubbed
  port : t.port = s.port

theorem SameButLines.refl (s : State) : SameButLines s s := by constructor <;> rfl

theorem SameButLines.trans {s t u : State} (h : SameButLines s t) (k : SameButLines t u) :
    SameButLines s u where
  owned := k.owned.trans h.owned
  dir := k.dir.trans h.dir
  w := k.w.trans h.w
  upc := k.upc.trans h.upc
  a := k.a.trans h.a
  v := k.v.trans h.v
  phase := k.phase.trans h.phase
  p := k.p.trans h.p
  tix := k.tix.trans h.tix
  initDone := k.initDone.trans h.initDone
  busy := k.busy.trans h.busy
  client := k.client.trans h.client
  target := k.target.trans h.target
  params := k.params.trans h.params
  draws := k.draws.trans h.draws
  drawn := k.drawn.trans h.drawn
  scrubbed := k.scrubbed.trans h.scrubbed
  port := k.port.trans h.port

theorem perform_same (m : MicroAction) (s : State) : SameButLines s (perform m s) := by
  cases m with
  | delay => constructor <;> rfl
  | write l b => simp only [perform, lineWrite_eq]; constructor <;> rfl

/-- What a list of actions leaves unchanged. -/
theorem runActions_same (ms : List MicroAction) (s : State) : SameButLines s (runActions ms s) := by
  induction ms generalizing s with
  | nil => exact SameButLines.refl s
  | cons m ms ih => exact (perform_same m s).trans (ih _)

/-- Everything a transmission does: its script, and the latch left unspecified. -/
theorem sendWord_eq (w : Word24) (s : State) :
    sendWord w s = { runActions (transmitScript w) s with
      w := Config.idleW s.scrubbed, scrubbed := s.scrubbed + 1, upc := none } := by
  have h := (runActions_same ((List.range 79).map (microAction w)) s).scrubbed
  rw [sendWord, microStep_iterate w s 79 (Nat.le_refl _), transmitScript_eq_table]
  simp only [State.scrubW, h]
  rfl

/-! ### Events and diagnostics of a list of actions -/

/-- Whether the next attempt on line `l` is effective (R62). -/
def State.effective (s : State) (l : Line) (k : Nat) : Bool :=
  s.owned.get l && s.dir.get l != .input && s.okAt k

/-- The events of a list of actions, the environment answering from attempt `k` on. -/
def actionEvents (s : State) : Nat → List MicroAction → List Event
  | _, [] => []
  | k, .write l b :: ms => .evWrite l b (s.effective l k) :: actionEvents s (k + 1) ms
  | k, .delay :: ms => .evDelay :: actionEvents s k ms

/-- The levels after each action, the environment answering from attempt `k` on. -/
def actionLevels (s : State) : Nat → PerLine Level → List MicroAction → List (PerLine Level)
  | _, _, [] => []
  | k, h, .write l b :: ms =>
    let h' := if s.effective l k then h.set l b else h
    h' :: actionLevels s (k + 1) h' ms
  | k, h, .delay :: ms => h :: actionLevels s k h ms

theorem actionEvents_action (s : State) (k : Nat) (ms : List MicroAction) :
    (actionEvents s k ms).map Event.action = ms.map some := by
  induction ms generalizing k with
  | nil => rfl
  | cons m ms ih => cases m <;> simp [actionEvents, Event.action, ih]

theorem actionEvents_length (s : State) (k : Nat) (ms : List MicroAction) :
    (actionEvents s k ms).length = ms.length := by
  simpa using congrArg List.length (actionEvents_action s k ms)

theorem actionLevels_length (s : State) (k : Nat) (h : PerLine Level) (ms : List MicroAction) :
    (actionLevels s k h ms).length = ms.length := by
  induction ms generalizing k h with
  | nil => rfl
  | cons m ms ih => cases m <;> simp [actionLevels, ih]

/-- The answers to come are those of `s` from attempt `k` on, over the same ownership and directions. -/
structure Continues (s t : State) (k : Nat) : Prop where
  effective : ∀ l j, t.effective l j = s.effective l (k + j)

theorem Continues.refl (s : State) : Continues s s 0 := ⟨by simp⟩

theorem Continues.write {s t : State} {k : Nat} (h : Continues s t k) (l : Line) (b : Level) :
    Continues s (perform (.write l b) t) (k + 1) := by
  constructor
  intro l' j
  rw [Nat.add_assoc, Nat.add_comm 1 j, ← h.effective l' (j + 1)]
  have hok : (perform (.write l b) t).okAt j = t.okAt (j + 1) := by
    rw [← State.okAt_popOk]
    exact State.okAt_congr (by simp [perform, lineWrite_eq]) (by simp [perform, lineWrite_eq]) j
  simp only [State.effective, hok, (perform_same (.write l b) t).owned, (perform_same (.write l b) t).dir]

theorem Continues.delay {s t : State} {k : Nat} (h : Continues s t k) :
    Continues s (perform .delay t) k := ⟨fun l j => h.effective l j⟩

/-- What one level write adds, in the terms of the lists above. -/
theorem perform_write_logs {s t : State} {k : Nat} (h : Continues s t k) (l : Line) (b : Level) :
    let eff := s.effective l k
    let level := if eff then t.level.set l b else t.level
    (perform (.write l b) t).trace = t.trace ++ [.evWrite l b eff] ∧
    (perform (.write l b) t).diag = t.diag ++ (Event.failure (.evWrite l b eff)).toList ∧
    (perform (.write l b) t).history = t.history ++ [level] ∧
    (perform (.write l b) t).level = level ∧
    (perform (.write l b) t).answers = t.answers.tail ∧
    (perform (.write l b) t).asked = t.asked + 1 := by
  have he : (t.owned.get l && t.dir.get l != .input && t.okAt 0) = s.effective l k := h.effective l 0
  cases hs : s.effective l k <;> simp [perform, lineWrite_eq, he, hs, Event.failure]

/-- The trace, the diagnostics, the levels and the level history after a list of actions. -/
theorem runActions_logs {s t : State} {k : Nat} (h : Continues s t k) (ms : List MicroAction) :
    (runActions ms t).trace = t.trace ++ actionEvents s k ms ∧
    (runActions ms t).diag = t.diag ++ (actionEvents s k ms).filterMap Event.failure ∧
    (runActions ms t).history = t.history ++ actionLevels s k t.level ms ∧
    (runActions ms t).level = (actionLevels s k t.level ms).getLastD t.level ∧
    (runActions ms t).answers = t.answers.drop (attemptsIn ms) ∧
    (runActions ms t).asked = t.asked + attemptsIn ms ∧
    Continues s (runActions ms t) (k + attemptsIn ms) := by
  induction ms generalizing t k with
  | nil => simp [actionEvents, actionLevels, h]
  | cons m ms ih =>
    cases m with
    | delay =>
      obtain ⟨h1, h2, h3, h4, h5, h6, h7⟩ := ih h.delay
      simp only [runActions_cons, attemptsIn_delay, actionEvents, actionLevels, List.getLastD_cons]
      refine ⟨?_, ?_, ?_, h4, h5, h6, h7⟩
      · rw [h1]; simp [perform, settle_eq]
      · rw [h2, List.filterMap_cons_none rfl]; rfl
      · rw [h3]; simp [perform, settle_eq]
    | write l b =>
      obtain ⟨h1, h2, h3, h4, h5, h6, h7⟩ := ih (h.write l b)
      obtain ⟨e1, e2, e3, e4, e5, e6⟩ := perform_write_logs h l b
      simp only [runActions_cons, attemptsIn_write, actionEvents, actionLevels, List.getLastD_cons]
      refine ⟨?_, ?_, ?_, ?_, ?_, ?_, ?_⟩
      · rw [h1, e1, List.append_assoc]; rfl
      · rw [h2, e2, List.append_assoc]
        cases s.effective l k <;> rfl
      · rw [h3, e3, e4, List.append_assoc]; rfl
      · rw [h4, e4]
      · rw [h5, e5, ← List.drop_one, List.drop_drop, Nat.add_comm]
      · rw [h6, e6]; omega
      · rwa [Nat.add_assoc, Nat.add_comm 1] at h7

/-- On ready lines a write is effective exactly when the environment says so (R122). -/
theorem State.effective_of_ready {s : State} (h : LinesReady s) (l : Line) (k : Nat) :
    s.effective l k = s.okAt k := by
  simp [State.effective, (h l).1, (h l).2]

/-- On a line that is not owned no write is effective (R12). -/
theorem State.effective_of_noneOwned {s : State} (h : NoneOwned s) (l : Line) (k : Nat) :
    s.effective l k = false := by
  simp [State.effective, h l]

end Sys2Proof.Machine
end

