-- ==== Sys2Proof/Laws/Decode.lean ====
section
/-! SUPPORT. The decoder's helpers, once: a decimal text and its number, a pin number and its line. -/

namespace Sys2Proof

/-! ### Decimal texts (R52) -/

theorem digitsValue_append (bs : List Byte) (b : Byte) :
    digitsValue (bs ++ [b]) = 10 * digitsValue bs + (b.toNat - 0x30) := by
  simp [digitsValue]

theorem decimalOnto_acc (fuel n : Nat) (acc : List Byte) :
    decimalOnto fuel n acc = decimalOnto fuel n [] ++ acc := by
  induction fuel generalizing n acc with
  | zero => rfl
  | succ fuel ih =>
    unfold decimalOnto
    split_ifs
    · rfl
    · rw [ih (n / 10) (digitByte (n % 10) :: acc), ih (n / 10) [digitByte (n % 10)]]
      simp

theorem digitByte_toNat {d : Nat} (h : d < 10) : (digitByte d).toNat = 0x30 + d := by
  simp [digitByte]
  omega

theorem isDigit_digitByte {d : Nat} (h : d < 10) : isDigit (digitByte d) = true := by
  simp [isDigit, digitByte_toNat h]
  omega

/-- A digit's byte is the byte of its value. -/
theorem digitByte_of_isDigit {b : Byte} (h : isDigit b = true) :
    digitByte (b.toNat - 0x30) = b ∧ b.toNat - 0x30 < 10 ∧ 0x30 ≤ b.toNat := by
  simp only [isDigit, Bool.and_eq_true, decide_eq_true_eq] at h
  refine ⟨BitVec.eq_of_toNat_eq ?_, by omega, h.1⟩
  simp [digitByte]
  omega

/-- Fuel above the number is enough, and more changes nothing. -/
theorem decimalOnto_fuel {f g n : Nat} (hf : n < f) (hg : n < g) :
    decimalOnto f n [] = decimalOnto g n [] := by
  induction f generalizing n g with
  | zero => omega
  | succ f ih =>
    cases g with
    | zero => omega
    | succ g =>
      simp only [decimalOnto]
      split_ifs
      · rfl
      · rw [decimalOnto_acc f, decimalOnto_acc g, ih (g := g) (by omega) (by omega)]

/-- The decimal text of a number: digits only, the number's value, not empty, no leading zero. -/
theorem decimalOnto_spec (f n : Nat) (h : n < f) :
    (decimalOnto f n []).all isDigit = true ∧ digitsValue (decimalOnto f n []) = n ∧
    decimalOnto f n [] ≠ [] ∧ (10 ≤ n → (decimalOnto f n []).head? ≠ some 0x30#8) ∧
    (n < 10 → decimalOnto f n [] = [digitByte n]) := by
  induction f generalizing n with
  | zero => omega
  | succ f ih =>
    unfold decimalOnto
    have hd : n % 10 < 10 := Nat.mod_lt _ (by omega)
    split_ifs with h0
    · have hn : n < 10 := by omega
      rw [Nat.mod_eq_of_lt hn]
      exact ⟨by simp [isDigit_digitByte hn], by simp [digitsValue, digitByte_toNat hn], by simp,
        fun h => by omega, fun _ => rfl⟩
    · obtain ⟨i1, i2, i3, i4, i5⟩ := ih (n / 10) (by omega)
      rw [decimalOnto_acc]
      refine ⟨by simp [i1, isDigit_digitByte hd], ?_, by simp, fun h => ?_, fun h => by omega⟩
      · rw [digitsValue_append, i2, digitByte_toNat hd]
        omega
      · by_cases h10 : 10 ≤ n / 10
        · have h4 := i4 h10
          cases hh : decimalOnto f (n / 10) [] with
          | nil => exact absurd hh i3
          | cons a l => rw [hh] at h4; simpa using h4
        · rw [i5 (by omega)]
          simp only [List.cons_append, List.nil_append, List.head?_cons, ne_eq, Option.some.injEq]
          intro hc
          have hz := congrArg BitVec.toNat hc
          rw [digitByte_toNat (by omega)] at hz
          simp at hz
          omega

/-- The decimal text of a number reads as that number. -/
theorem readDecimal_decimal (n : Nat) : readDecimal (decimal n) = some n := by
  obtain ⟨i1, i2, i3, i4, i5⟩ := decimalOnto_spec (n + 1) n (by omega)
  unfold decimal
  cases hh : decimalOnto (n + 1) n [] with
  | nil => exact absurd hh i3
  | cons a l =>
    rw [hh] at i1 i2 i4 i5
    unfold readDecimal
    by_cases h10 : 10 ≤ n
    · have h4 : (a == 0x30#8) = false := by simpa using i4 h10
      simp only [i1, h4, i2]
      simp
    · have hl : l = [] := by
        have h5 := i5 (by omega)
        simp only [List.cons.injEq] at h5
        exact h5.2
      subst hl
      simp only [i1, i2]
      simp

/-- Digits without a leading zero are the decimal text of their value. -/
theorem decimal_digitsValue (bs : List Byte) (hne : bs ≠ []) (hd : bs.all isDigit = true)
    (h0 : 1 < bs.length → bs.head? ≠ some 0x30#8) :
    decimal (digitsValue bs) = bs ∧ (bs.head? ≠ some 0x30#8 → 1 ≤ digitsValue bs) := by
  induction bs using List.reverseRecOn with
  | nil => exact absurd rfl hne
  | append_singleton xs b ih =>
    simp only [List.all_append, Bool.and_eq_true, List.all_cons, List.all_nil, Bool.and_true] at hd
    obtain ⟨hb1, hb2, hb3⟩ := digitByte_of_isDigit hd.2
    rw [digitsValue_append]
    by_cases hx : xs = []
    · subst hx
      simp only [digitsValue, List.foldl_nil, List.nil_append]
      refine ⟨?_, ?_⟩
      · simp only [decimal, decimalOnto]
        rw [if_pos (by omega), show (10 * 0 + (b.toNat - 48)) % 10 = b.toNat - 48 by omega, hb1]
      · intro hne
        simp only [List.head?_cons, ne_eq, Option.some.injEq] at hne
        by_contra hc
        exact hne (BitVec.eq_of_toNat_eq (show b.toNat = 48 by omega))
    · have hh : xs.head? ≠ some 0x30#8 := by
        have h1 := h0 (by cases xs <;> simp_all)
        cases xs <;> simp_all
      obtain ⟨i1, i2⟩ := ih hx hd.1 (fun _ => hh)
      have i2 := i2 hh
      refine ⟨?_, fun _ => by omega⟩
      have e1 : (10 * digitsValue xs + (b.toNat - 48)) / 10 = digitsValue xs := by omega
      have e2 : (10 * digitsValue xs + (b.toNat - 48)) % 10 = b.toNat - 48 := by omega
      unfold decimal at *
      rw [decimalOnto, e1, e2, if_neg (by omega), decimalOnto_acc, hb1,
        decimalOnto_fuel (g := digitsValue xs + 1) (by omega) (by omega), i1]

/-- A text that reads as a number is that number's decimal text. -/
theorem decimal_of_readDecimal {bs : List Byte} {n : Nat} (h : readDecimal bs = some n) :
    decimal n = bs := by
  cases bs with
  | nil => simp [readDecimal] at h
  | cons b r =>
    simp only [readDecimal] at h
    split_ifs at h with hc
    rw [Bool.and_eq_true] at hc
    simp only [Option.some.injEq] at h
    subst h
    refine (decimal_digitsValue (b :: r) (by simp) hc.1 ?_).1
    intro hl hz
    have h2 := hc.2
    simp only [List.head?_cons, Option.some.injEq] at hz
    subst hz
    cases r with
    | nil => simp at hl
    | cons x y => simp at h2

/-! ### Pins (R30, R40) -/

/-- Under distinct pins a line's pin names that line. -/
theorem lineOfPin_get {pins : PerLine Nat} (h : pinsDistinct pins = true) (l : Line) :
    lineOfPin pins (pins.get l) = some l := by
  simp only [pinsDistinct, Bool.and_eq_true, bne_iff_ne, ne_eq] at h
  obtain ⟨⟨h1, h2⟩, h3⟩ := h
  cases l <;> simp [lineOfPin, PerLine.get, Ne.symm h1, Ne.symm h2, Ne.symm h3]

/-- The line a pin names has that pin. -/
theorem get_of_lineOfPin {pins : PerLine Nat} {n : Nat} {l : Line} (h : lineOfPin pins n = some l) :
    pins.get l = n := by
  unfold lineOfPin at h
  split_ifs at h <;> simp at h <;> subst h <;> simp_all [PerLine.get]

/-- All that a decoded pin can be. -/
theorem decodePin_ok {pins : PerLine Nat} {n : Nat} {mk : Line → Instr} {i : Instr}
    (h : decodePin pins n mk = .ok i) : ∃ l, i = mk l ∧ pins.get l = n := by
  unfold decodePin at h
  split at h
  · next l hl =>
    simp only [Except.ok.injEq] at h
    exact ⟨l, h.symm, get_of_lineOfPin hl⟩
  · simp at h

/-! ### Wire words (R46) -/

theorem frameTag_eq (f : Word24) : frameTag f = tagOf f := rfl

end Sys2Proof
end

