-- ==== Sys2Proof/Laws/Operations.lean ====
section
/-! SUPPORT. Each operation's body, once: at the line driver it is a script of micro-actions, and this is
what becomes of every other field. -/

namespace Sys2Proof.Machine

/-! ### Agreement at the line driver -/

theorem SameDriver.refl (s : State) : SameDriver s s := ⟨rfl, rfl, rfl, rfl, rfl, rfl, rfl, rfl, rfl, rfl⟩

theorem SameDriver.symm {s t : State} (h : SameDriver s t) : SameDriver t s := by
  obtain ⟨h1, h2, h3, h4, h5, h6, h7, h8, h9, h10⟩ := h
  exact ⟨h1.symm, h2.symm, h3.symm, h4.symm, h5.symm, h6.symm, h7.symm, h8.symm, h9.symm, h10.symm⟩

theorem SameDriver.trans {s t u : State} (h : SameDriver s t) (k : SameDriver t u) : SameDriver s u := by
  obtain ⟨h1, h2, h3, h4, h5, h6, h7, h8, h9, h10⟩ := h
  obtain ⟨k1, k2, k3, k4, k5, k6, k7, k8, k9, k10⟩ := k
  exact ⟨h1.trans k1, h2.trans k2, h3.trans k3, h4.trans k4, h5.trans k5, h6.trans k6, h7.trans k7,
    h8.trans k8, h9.trans k9, h10.trans k10⟩

theorem SameDriver.okAt {s t : State} (h : SameDriver s t) (k : Nat) : s.okAt k = t.okAt k :=
  State.okAt_congr h.2.2.2.2.2.2.1 h.2.2.2.2.2.2.2.1 k

theorem SameDriver.drawAt {s t : State} (h : SameDriver s t) (k : Nat) : s.drawAt k = t.drawAt k := by
  simp [State.drawAt, h.2.2.2.2.2.2.2.2.1, h.2.2.2.2.2.2.2.2.2]

theorem lineExport_congr {s t : State} (h : SameDriver s t) (l : Line) :
    SameDriver (lineExport l s) (lineExport l t) := by
  have ho := h.okAt 0
  obtain ⟨h1, h2, h3, h4, h5, h6, h7, h8, h9, h10⟩ := h
  simp only [lineExport_eq, SameDriver, ho, h1, h2, h3, h4, h5, h6, h7, h8, h9, h10, and_self]

theorem lineSetDir_congr {s t : State} (h : SameDriver s t) (l : Line) (d : Dir) :
    SameDriver (lineSetDir l d s) (lineSetDir l d t) := by
  have ho := h.okAt 0
  have hd := h.drawAt 0
  obtain ⟨h1, h2, h3, h4, h5, h6, h7, h8, h9, h10⟩ := h
  simp only [lineSetDir_eq, SameDriver, ho, hd, h1, h2, h3, h4, h5, h6, h7, h8, h9, h10, and_self]

theorem perform_congr {s t : State} (h : SameDriver s t) (m : MicroAction) :
    SameDriver (perform m s) (perform m t) := by
  have ho := h.okAt 0
  obtain ⟨h1, h2, h3, h4, h5, h6, h7, h8, h9, h10⟩ := h
  cases m with
  | delay => simp only [perform, settle_eq, SameDriver, h1, h2, h3, h4, h5, h6, h7, h8, h9, h10, and_self]
  | write l b =>
    simp only [perform, lineWrite_eq, SameDriver, ho, h1, h2, h3, h4, h5, h6, h7, h8, h9, h10, and_self]

/-- What a list of actions does at the line driver depends on nothing else. -/
theorem runActions_congr {s t : State} (h : SameDriver s t) (ms : List MicroAction) :
    SameDriver (runActions ms s) (runActions ms t) := by
  induction ms generalizing s t with
  | nil => exact h
  | cons m ms ih => exact ih (perform_congr h m)

theorem raiseBusy_driver (s : State) : SameDriver s.raiseBusy s := SameDriver.refl s

theorem returnToHost_driver (s : State) : SameDriver (returnToHost s) s := SameDriver.refl s

theorem latchWrite_driver (a v : Word16) (s : State) : SameDriver (latchWrite a v s) s :=
  SameDriver.refl s

theorem enterData_driver (s : State) : SameDriver (enterData s) s := SameDriver.refl s

theorem finishWrite_driver (s : State) : SameDriver (finishWrite s) s := SameDriver.refl s

theorem latchPanel_driver (p : Word16) (s : State) : SameDriver (latchPanel p s) s := SameDriver.refl s

theorem advanceTix_driver (s : State) : SameDriver (advanceTix s) s := SameDriver.refl s

theorem finishPanel_driver (s : State) : SameDriver (finishPanel s) s := SameDriver.refl s

theorem markInit_driver (s : State) : SameDriver (markInit s) s := SameDriver.refl s

/-! ### The fields above the line driver that an operation keeps -/

/-- The position and data of the client and the host, which a transmission and a register write keep. -/
structure SameClient (s t : State) : Prop where
  p : t.p = s.p
  tix : t.tix = s.tix
  initDone : t.initDone = s.initDone
  busy : t.busy = s.busy
  client : t.client = s.client
  params : t.params = s.params
  port : t.port = s.port

/-! ### TRANSMIT -/

/-- At the line driver a transmission is its script. -/
theorem sendWord_driver (w : Word24) (s : State) :
    SameDriver (sendWord w s) (runActions (transmitScript w) s) := by
  rw [sendWord_eq]
  generalize runActions (transmitScript w) s = t
  exact SameDriver.refl t

/-- What a transmission keeps. -/
theorem sendWord_rest (w : Word24) (s : State) :
    SameClient s (sendWord w s) ∧ (sendWord w s).upc = none ∧ (sendWord w s).a = s.a ∧
    (sendWord w s).v = s.v ∧ (sendWord w s).phase = s.phase ∧ (sendWord w s).target = s.target ∧
    (sendWord w s).scrubbed = s.scrubbed + 1 := by
  have h := runActions_same (transmitScript w) s
  rw [sendWord_eq]
  generalize runActions (transmitScript w) s = t at h
  exact ⟨⟨h.p, h.tix, h.initDone, h.busy, h.client, h.params, h.port⟩, rfl, h.a, h.v, h.phase,
    h.target, rfl⟩

/-! ### WRITEREG -/

/-- The script of a register write (R85, R87). -/
def writeScript (a v : Word16) : List MicroAction :=
  transmitScript (addrFrame a) ++ transmitScript (dataFrame v)

/-- The state before the return of a register write, its second frame sent. -/
def writeSent (a v : Word16) (s : State) : State :=
  sendWord (dataFrame v) (enterData (sendWord (addrFrame a) (latchWrite a v s)))

theorem writeReg_eq_finish (a v : Word16) (s : State) :
    writeReg a v s = finishWrite (writeSent a v s) := by
  obtain ⟨-, -, -, h2, -⟩ := sendWord_rest (addrFrame a) (latchWrite a v s)
  simp only [writeReg, writeSent, latchWrite_a, enterData_v, h2, latchWrite_v]

/-- At the line driver a register write is its script. -/
theorem writeReg_driver (a v : Word16) (s : State) :
    SameDriver (writeReg a v s) (runActions (writeScript a v) s) := by
  rw [writeReg_eq_finish, writeScript, runActions_append]
  have h1 := (sendWord_driver (addrFrame a) (latchWrite a v s)).trans
    (runActions_congr (latchWrite_driver a v s) _)
  have h2 := (enterData_driver (sendWord (addrFrame a) (latchWrite a v s))).trans h1
  have h3 := (sendWord_driver (dataFrame v) _).trans (runActions_congr h2 (transmitScript (dataFrame v)))
  exact (finishWrite_driver _).trans h3

/-- What a register write keeps, and what it leaves above the line driver. -/
theorem writeReg_rest (a v : Word16) (s : State) :
    SameClient s (writeReg a v s) ∧ (writeReg a v s).upc = none ∧ (writeReg a v s).phase = .none ∧
    (writeReg a v s).target = s.target.write a.toNat v ∧
    (writeReg a v s).scrubbed = s.scrubbed + 3 := by
  obtain ⟨c1, -, a1, v1, -, t1, k1⟩ := sendWord_rest (addrFrame a) (latchWrite a v s)
  obtain ⟨c2, u2, a2, v2, -, t2, k2⟩ :=
    sendWord_rest (dataFrame v) (enterData (sendWord (addrFrame a) (latchWrite a v s)))
  rw [writeReg_eq_finish]
  have w : writeSent a v s = sendWord (dataFrame v) (enterData (sendWord (addrFrame a) (latchWrite a v s))) :=
    rfl
  refine ⟨⟨?_, ?_, ?_, ?_, ?_, ?_, ?_⟩, ?_, finishWrite_phase _, ?_, ?_⟩
  · rw [finishWrite_p, w, c2.p, enterData_p, c1.p, latchWrite_p]
  · rw [finishWrite_tix, w, c2.tix, enterData_tix, c1.tix, latchWrite_tix]
  · rw [finishWrite_initDone, w, c2.initDone, enterData_initDone, c1.initDone, latchWrite_initDone]
  · rw [finishWrite_busy, w, c2.busy, enterData_busy, c1.busy, latchWrite_busy]
  · rw [finishWrite_client, w, c2.client, enterData_client, c1.client, latchWrite_client]
  · rw [finishWrite_params, w, c2.params, enterData_params, c1.params, latchWrite_params]
  · rw [finishWrite_port, w, c2.port, enterData_port, c1.port, latchWrite_port]
  · rw [finishWrite_upc, w, u2]
  · rw [finishWrite_target, w, a2, v2, t2, enterData_a, enterData_v, enterData_target, a1, v1, t1,
      latchWrite_a, latchWrite_v, latchWrite_target]
  · rw [finishWrite_scrubbed, w, k2, enterData_scrubbed, k1, latchWrite_scrubbed]

/-! ### INITPANEL -/

/-- The script of some entries of the table (R95). -/
def entriesScript (es : List PanelEntry) (p : Word16) : List MicroAction :=
  es.flatMap fun e => writeScript e.reg (entryValue e.value p)

/-- The ghost map after some entries. -/
def entriesTarget (es : List PanelEntry) (p : Word16) (m : Memory) : Memory :=
  es.foldl (fun m e => m.write e.reg.toNat (entryValue e.value p)) m

/-- The register writes of some entries: their script, and what they keep. -/
theorem runEntries_spec (es : List PanelEntry) (s : State) :
    SameDriver (runEntries es s) (runActions (entriesScript es s.p) s) ∧
    (runEntries es s).p = s.p ∧ (runEntries es s).tix = s.tix + es.length ∧
    (runEntries es s).initDone = s.initDone ∧ (runEntries es s).busy = s.busy ∧
    (runEntries es s).client = s.client ∧ (runEntries es s).params = s.params ∧
    (runEntries es s).port = s.port ∧
    (runEntries es s).target = entriesTarget es s.p s.target ∧
    (s.upc = none → (runEntries es s).upc = none) ∧
    (s.phase = .none → (runEntries es s).phase = .none) := by
  induction es generalizing s with
  | nil => exact ⟨SameDriver.refl s, rfl, rfl, rfl, rfl, rfl, rfl, rfl, rfl, id, id⟩
  | cons e es ih =>
    have hd := writeReg_driver e.reg (entryValue e.value s.p) s
    obtain ⟨c, hu, hp, ht, -⟩ := writeReg_rest e.reg (entryValue e.value s.p) s
    obtain ⟨i1, i2, i3, i4, i5, i6, i7, i8, i9, i10, i11⟩ :=
      ih (advanceTix (writeReg e.reg (entryValue e.value s.p) s))
    simp only [advanceTix_p, advanceTix_tix, advanceTix_initDone, advanceTix_busy, advanceTix_client,
      advanceTix_params, advanceTix_port, advanceTix_target, c.p, c.tix, c.initDone, c.busy, c.client,
      c.params, c.port, ht] at i1 i2 i3 i4 i5 i6 i7 i8 i9
    refine ⟨?_, i2, ?_, i4, i5, i6, i7, i8, ?_, fun _ => i10 ((advanceTix_upc _).trans hu),
      fun _ => i11 ((advanceTix_phase _).trans hp)⟩
    · refine i1.trans ?_
      have he : entriesScript (e :: es) s.p =
          writeScript e.reg (entryValue e.value s.p) ++ entriesScript es s.p := rfl
      rw [he, runActions_append]
      exact runActions_congr ((advanceTix_driver _).trans hd) _
    · simp only [runEntries, i3, List.length_cons]; omega
    · simp only [runEntries, i9, entriesTarget, List.foldl_cons]

/-- The script of a bring-up (R95, R99). -/
def tableScript (q : Params) (p : Word16) : List MicroAction := entriesScript q.panelTable p

/-- A bring-up: its script at the line driver, and every other field. -/
theorem bringUp_spec (p : Word16) (s : State) :
    SameDriver (bringUp p s) (runActions (tableScript s.params p) s) ∧
    (s.upc = none → (bringUp p s).upc = none) ∧ (s.phase = .none → (bringUp p s).phase = .none) ∧
    (bringUp p s).tix = 0 ∧
    (bringUp p s).client = .idle ∧ (bringUp p s).initDone = s.initDone ∧
    (bringUp p s).busy = s.busy ∧ (bringUp p s).params = s.params ∧ (bringUp p s).port = s.port ∧
    (bringUp p s).target = entriesTarget s.params.panelTable p s.target := by
  obtain ⟨h1, -, -, h4, h5, -, h7, h8, h9, hu, hp⟩ :=
    runEntries_spec s.params.panelTable (latchPanel p s)
  refine ⟨?_, hu, hp, rfl, rfl, h4, h5, h7, h8, h9⟩
  exact ((finishPanel_driver _).trans h1).trans (runActions_congr (latchPanel_driver p s) _)

/-! ### Line set-up and SETDISPLAY -/

/-- Line set-up keeps everything above the line driver, and the ghost map. -/
theorem lineSetup_rest (s : State) :
    SameClient s (lineSetup s) ∧ (lineSetup s).upc = s.upc ∧ (lineSetup s).phase = s.phase ∧
    (lineSetup s).target = s.target := by
  simp only [lineSetup, setupOrder, List.foldl_cons, List.foldl_nil, lineExport_eq, lineSetDir_eq]
  constructor
  · constructor <;> rfl
  · exact ⟨trivial, trivial, trivial⟩

/-- The state in which SETDISPLAY begins its bring-up (R97). -/
def displayReady (s : State) : State := if setupDue s then markInit (lineSetup s) else s

/-- SETDISPLAY: line set-up where due, then the bring-up of the packed word. -/
theorem displayBody_eq (b c : Byte) (s : State) :
    displayBody b c s = bringUp (packDisplay b c) (displayReady s) := rfl

theorem displayReady_rest (s : State) :
    (displayReady s).p = s.p ∧ (displayReady s).tix = s.tix ∧ (displayReady s).busy = s.busy ∧
    (displayReady s).client = s.client ∧ (displayReady s).params = s.params ∧
    (displayReady s).port = s.port ∧ (displayReady s).target = s.target ∧
    (displayReady s).initDone = (setupDue s || s.initDone) ∧
    (displayReady s).upc = s.upc ∧ (displayReady s).phase = s.phase := by
  obtain ⟨c, u, ph, t⟩ := lineSetup_rest s
  unfold displayReady
  split_ifs with h
  · exact ⟨c.p, c.tix, c.busy, c.client, c.params, c.port, t, by rw [h]; rfl, u, ph⟩
  · simp [h]

end Sys2Proof.Machine
end

