-- ==== Sys2Proof/Laws/Exec.lean ====
section
/-! SUPPORT. Issuing an operation, once: every operation at a ready port answers a next state, one that
transmits runs its script at the line driver, and this is what it adds to the logs. -/

namespace Sys2Proof.Machine

/-- The state an operation leaves: issued, run, returned. -/
def issued (i : Instr) (s : State) : State := returnToHost (bodyOf i s.raiseBusy)

/-- At a ready port every operation answers the state it leaves. -/
theorem exec_ready {s : State} (h : s.busy = false) (i : Instr) : exec i s = .next (issued i s) := by
  rw [exec_eq_issue, issue_ready h, issued]

/-- The script of an operation that only transmits; none for the line-driver operations and for
SETDISPLAY, whose line set-up is no list of micro-actions. -/
def scriptOf (q : Params) : Instr → Option (List MicroAction)
  | .transmit w => some (transmitScript w)
  | .frameAddr a => some (transmitScript (addrFrame a))
  | .frameData v => some (transmitScript (dataFrame v))
  | .frameRaw w => some (transmitScript w)
  | .writereg a v => some (writeScript a v)
  | .initpanel p => some (tableScript q p)
  | .exportLine _ => none
  | .setdirIn _ => none
  | .setdirOut _ => none
  | .wrlevel0 _ => none
  | .wrlevel1 _ => none
  | .setdisplay _ _ => none

/-- At the line driver an operation that only transmits is its script. -/
theorem issued_driver {i : Instr} {s : State} {ms : List MicroAction}
    (h : scriptOf s.params i = some ms) : SameDriver (issued i s) (runActions ms s) := by
  refine (returnToHost_driver _).trans ?_
  cases i <;> simp only [scriptOf, Option.some.injEq, reduceCtorEq] at h <;> subst h <;>
    simp only [bodyOf]
  · exact (sendWord_driver _ _).trans (runActions_congr (raiseBusy_driver s) _)
  · exact (writeReg_driver _ _ _).trans (runActions_congr (raiseBusy_driver s) _)
  · exact (bringUp_spec _ _).1.trans (runActions_congr (raiseBusy_driver s) _)
  · exact (sendWord_driver _ _).trans (runActions_congr (raiseBusy_driver s) _)
  · exact (sendWord_driver _ _).trans (runActions_congr (raiseBusy_driver s) _)
  · exact (sendWord_driver _ _).trans (runActions_congr (raiseBusy_driver s) _)

/-- What an operation that only transmits adds to the logs, and what it takes from the environment. -/
theorem issued_logs {i : Instr} {s : State} {ms : List MicroAction}
    (h : scriptOf s.params i = some ms) :
    (issued i s).trace = s.trace ++ actionEvents s 0 ms ∧
    (issued i s).diag = s.diag ++ (actionEvents s 0 ms).filterMap Event.failure ∧
    (issued i s).history = s.history ++ actionLevels s 0 s.level ms ∧
    (issued i s).level = (actionLevels s 0 s.level ms).getLastD s.level ∧
    (issued i s).answers = s.answers.drop (attemptsIn ms) ∧
    (issued i s).asked = s.asked + attemptsIn ms := by
  obtain ⟨e1, -, -, e4, e5, e6, e7, e8, -, -⟩ := issued_driver h
  obtain ⟨h1, h2, h3, h4, h5, h6, -⟩ := runActions_logs (Continues.refl s) ms
  exact ⟨e4.trans h1, e5.trans h2, e6.trans h3, e1.trans h4, e7.trans h5, e8.trans h6⟩

/-- The events, the diagnostics and the level history since the issue. -/
theorem issued_since {i : Instr} {s : State} {ms : List MicroAction}
    (h : scriptOf s.params i = some ms) :
    eventsSince s (issued i s) = actionEvents s 0 ms ∧
    diagsSince s (issued i s) = (actionEvents s 0 ms).filterMap Event.failure ∧
    historySince s (issued i s) = s.level :: actionLevels s 0 s.level ms := by
  obtain ⟨h1, h2, h3, -⟩ := issued_logs h
  exact ⟨by simp [eventsSince, h1], by simp [diagsSince, h2], by simp [historySince, h3]⟩

/-- SETDISPLAY at the line driver: line set-up where due, then the script of the bring-up. -/
theorem issued_setdisplay (b c : Byte) (s : State) :
    SameDriver (issued (.setdisplay b c) s)
      (runActions (tableScript s.params (packDisplay b c)) (displayReady s)) := by
  have hsetup : SameDriver (lineSetup s.raiseBusy) (lineSetup s) := by
    simp only [lineSetup, setupOrder, List.foldl_cons, List.foldl_nil]
    exact lineSetDir_congr (lineExport_congr (lineSetDir_congr (lineExport_congr (lineSetDir_congr
      (lineExport_congr (raiseBusy_driver s) _) _ _) _) _ _) _) _ _
  have hready : SameDriver (displayReady s.raiseBusy) (displayReady s) := by
    unfold displayReady
    rw [show setupDue s.raiseBusy = setupDue s from rfl]
    split_ifs
    · exact (markInit_driver _).trans (hsetup.trans (markInit_driver _).symm)
    · exact raiseBusy_driver s
  have hb := (bringUp_spec (packDisplay b c) (displayReady s.raiseBusy)).1
  rw [(displayReady_rest s.raiseBusy).2.2.2.2.1, State.raiseBusy_params] at hb
  simp only [issued, bodyOf, displayBody_eq]
  exact (returnToHost_driver _).trans (hb.trans (runActions_congr hready _))

end Sys2Proof.Machine
end

