-- ==== Sys2Proof/Laws/Growth.lean ====
section
/-! SUPPORT. How one state grows out of another: events are appended, never rewritten; each event carries
its diagnostic and its triple of the level history; ownership only rises; a level changes only by an
effective event. Every operation, whole or one micro-step at a time, is of this kind. -/

namespace Sys2Proof.Machine

/-- The event changed the level of `l`: an effective level write to it, or a successful direction set of
it (R11). -/
def Event.moves (l : Line) : Event → Prop
  | .evWrite l' _ eff => l' = l ∧ eff = true
  | .evDir l' _ ok => l' = l ∧ ok = true
  | .evExport _ _ => False
  | .evDelay => False

/-- `t` grows out of `s` by the events `es`. -/
structure GrowsBy (s t : State) (es : List Event) : Prop where
  trace : t.trace = s.trace ++ es
  diag : t.diag = s.diag ++ es.filterMap Event.failure
  history : ∃ hs, t.history = s.history ++ hs ∧ hs.length = es.length ∧
    (s.level :: hs).getLast? = some t.level
  owned : ∀ l, t.owned.get l = true ↔ s.owned.get l = true ∨ .evExport l true ∈ es
  dropped : ∀ l, t.owned.get l = false → ∀ e ∈ es, ¬ e.moves l
  level : ∀ l, t.level.get l ≠ s.level.get l → ∃ e ∈ es, e.moves l
  params : t.params = s.params
  port : t.port = s.port

/-- `t` grows out of `s`. -/
def Grows (s t : State) : Prop := ∃ es, GrowsBy s t es

/-- An update of none of the fields that growth speaks of. -/
theorem Grows.of_same {s t : State} (h1 : t.trace = s.trace) (h2 : t.diag = s.diag)
    (h3 : t.history = s.history) (h4 : t.owned = s.owned) (h5 : t.level = s.level)
    (h6 : t.params = s.params) (h7 : t.port = s.port) : Grows s t :=
  ⟨[], by simp [h1], by simp [h2], ⟨[], by simp [h3], rfl, by simp [h5]⟩, by simp [h4], by simp, by simp [h5],
    h6, h7⟩

theorem Grows.refl (s : State) : Grows s s := Grows.of_same rfl rfl rfl rfl rfl rfl rfl

/-- The last triple of two stretches of history is the last of the second. -/
theorem getLast?_chain {α : Type} {a b : α} {xs : List α} (h : (a :: xs).getLast? = some b) (ys : List α) :
    (a :: (xs ++ ys)).getLast? = (b :: ys).getLast? := by
  cases ys with
  | nil => simpa using h
  | cons y ys => simp [List.getLast?_cons]

theorem Grows.trans {s t u : State} (h : Grows s t) (k : Grows t u) : Grows s u := by
  obtain ⟨es, h1, h2, ⟨hs, h3, h4, h5⟩, h6, hd, h7, h8, h9⟩ := h
  obtain ⟨fs, k1, k2, ⟨ks, k3, k4, k5⟩, k6, kd, k7, k8, k9⟩ := k
  refine ⟨es ++ fs, by rw [k1, h1, List.append_assoc], by rw [k2, h2, List.filterMap_append, List.append_assoc],
    ⟨hs ++ ks, by rw [k3, h3, List.append_assoc], by simp [h4, k4], by rw [getLast?_chain h5, k5]⟩,
    fun l => by rw [k6, h6, List.mem_append, or_assoc], fun l hl e he => ?_, fun l hl => ?_, k8.trans h8,
    k9.trans h9⟩
  · rcases List.mem_append.1 he with he | he
    · refine hd l ?_ e he
      cases ht : t.owned.get l with
      | false => rfl
      | true => rw [(k6 l).2 (.inl ht)] at hl; exact hl
    · exact kd l hl e he
  · by_cases ht : t.level.get l = s.level.get l
    · obtain ⟨e, he, hm⟩ := k7 l (ht ▸ hl)
      exact ⟨e, List.mem_append_right _ he, hm⟩
    · obtain ⟨e, he, hm⟩ := h7 l ht
      exact ⟨e, List.mem_append_left _ he, hm⟩

/-! ### The updates that growth does not speak of -/

theorem beginSend_grows (w : Word24) (s : State) : Grows s (beginSend w s) :=
  Grows.of_same rfl rfl rfl rfl rfl rfl rfl

theorem State.scrubW_grows (s : State) : Grows s s.scrubW :=
  Grows.of_same rfl rfl rfl rfl rfl rfl rfl

theorem State.atMicro_grows (s : State) (u : Option (Fin 79)) : Grows s (s.atMicro u) :=
  Grows.of_same rfl rfl rfl rfl rfl rfl rfl

theorem latchWrite_grows (a v : Word16) (s : State) : Grows s (latchWrite a v s) :=
  Grows.of_same rfl rfl rfl rfl rfl rfl rfl

theorem enterData_grows (s : State) : Grows s (enterData s) :=
  Grows.of_same rfl rfl rfl rfl rfl rfl rfl

theorem finishWrite_grows (s : State) : Grows s (finishWrite s) :=
  Grows.of_same rfl rfl rfl rfl rfl rfl rfl

theorem advanceTix_grows (s : State) : Grows s (advanceTix s) :=
  Grows.of_same rfl rfl rfl rfl rfl rfl rfl

theorem latchPanel_grows (p : Word16) (s : State) : Grows s (latchPanel p s) :=
  Grows.of_same rfl rfl rfl rfl rfl rfl rfl

theorem finishPanel_grows (s : State) : Grows s (finishPanel s) :=
  Grows.of_same rfl rfl rfl rfl rfl rfl rfl

theorem markInit_grows (s : State) : Grows s (markInit s) :=
  Grows.of_same rfl rfl rfl rfl rfl rfl rfl

theorem State.atClient_grows (s : State) (c : Client) : Grows s (s.atClient c) :=
  Grows.of_same rfl rfl rfl rfl rfl rfl rfl

theorem State.raiseBusy_grows (s : State) : Grows s s.raiseBusy :=
  Grows.of_same rfl rfl rfl rfl rfl rfl rfl

theorem returnToHost_grows (s : State) : Grows s (returnToHost s) :=
  Grows.of_same rfl rfl rfl rfl rfl rfl rfl

/-! ### The attempts -/

theorem lineExport_grows (l : Line) (s : State) : Grows s (lineExport l s) := by
  rw [lineExport_eq]
  generalize s.okAt 0 = ok
  refine ⟨[.evExport l ok], rfl, ?_, ⟨[s.level], rfl, rfl, rfl⟩, fun l' => ?_, fun l' _ e he => ?_,
    fun l' hl => absurd rfl hl, rfl, rfl⟩
  · cases ok <;> simp [Event.failure]
  · cases ok
    · simp
    · by_cases h : l' = l <;> simp [PerLine.get_set, h]
  · rw [List.mem_singleton.1 he]; exact id

theorem lineSetDir_grows (l : Line) (d : Dir) (s : State) : Grows s (lineSetDir l d s) := by
  rw [lineSetDir_eq]
  refine ⟨[.evDir l d (s.owned.get l && s.okAt 0)], rfl, ?_, ⟨[_], rfl, rfl, rfl⟩,
    fun l' => by simp, fun l' hl e he => ?_, fun l' hl => ⟨_, List.mem_singleton_self _, ?_⟩, rfl, rfl⟩
  · cases s.owned.get l && s.okAt 0 <;> simp [Event.failure]
  · rw [List.mem_singleton.1 he]
    rintro ⟨rfl, hok⟩
    rw [Bool.and_eq_true, show s.owned.get l = false from hl] at hok
    exact Bool.noConfusion hok.1
  · cases hok : (s.owned.get l && s.okAt 0) with
    | false => rw [hok] at hl; exact absurd rfl hl
    | true =>
      refine ⟨?_, rfl⟩
      by_contra hne
      rw [hok] at hl
      exact hl (PerLine.get_set_of_ne _ _ (Ne.symm hne))

theorem lineWrite_grows (l : Line) (b : Level) (s : State) : Grows s (lineWrite l b s) := by
  rw [lineWrite_eq]
  refine ⟨[.evWrite l b (s.owned.get l && s.dir.get l != .input && s.okAt 0)], rfl, ?_,
    ⟨[_], rfl, rfl, rfl⟩, fun l' => by simp, fun l' hl e he => ?_,
    fun l' hl => ⟨_, List.mem_singleton_self _, ?_⟩, rfl, rfl⟩
  · cases s.owned.get l && s.dir.get l != .input && s.okAt 0 <;> simp [Event.failure]
  · rw [List.mem_singleton.1 he]
    rintro ⟨rfl, hok⟩
    rw [Bool.and_eq_true, Bool.and_eq_true, show s.owned.get l = false from hl] at hok
    exact Bool.noConfusion hok.1.1
  · cases hok : (s.owned.get l && s.dir.get l != .input && s.okAt 0) with
    | false => rw [hok] at hl; exact absurd rfl hl
    | true =>
      refine ⟨?_, rfl⟩
      by_contra hne
      rw [hok] at hl
      exact hl (PerLine.get_set_of_ne _ _ (Ne.symm hne))

theorem settle_grows (s : State) : Grows s (settle s) :=
  ⟨[.evDelay], rfl, by simp [settle, Event.failure, State.emit], ⟨[s.level], rfl, rfl, rfl⟩,
    fun _ => by simp [settle, State.emit], fun _ _ e he => by rw [List.mem_singleton.1 he]; exact id,
    fun _ h => absurd rfl h, rfl, rfl⟩

theorem perform_grows (m : MicroAction) (s : State) : Grows s (perform m s) := by
  cases m with
  | write l b => exact lineWrite_grows l b s
  | delay => exact settle_grows s

/-! ### The operations, micro-step by micro-step -/

theorem microStep_grows (s : State) : Grows s (microStep s) := by
  unfold microStep
  split
  · exact Grows.refl s
  · exact (perform_grows _ s).trans (State.atMicro_grows _ _)

theorem microStep_iterate_grows (n : Nat) (s : State) : Grows s (microStep^[n] s) := by
  induction n generalizing s with
  | zero => exact Grows.refl s
  | succ n ih => exact (microStep_grows s).trans (ih _)

theorem sendWord_grows (w : Word24) (s : State) : Grows s (sendWord w s) := by
  unfold sendWord
  exact ((beginSend_grows w s).trans (microStep_iterate_grows 79 _)).trans (State.scrubW_grows _)

theorem writeReg_grows (a v : Word16) (s : State) : Grows s (writeReg a v s) := by
  rw [writeReg_eq_finish, writeSent]
  exact ((((latchWrite_grows a v s).trans (sendWord_grows _ _)).trans (enterData_grows _)).trans
    (sendWord_grows _ _)).trans (finishWrite_grows _)

theorem runEntries_grows (es : List PanelEntry) (s : State) : Grows s (runEntries es s) := by
  induction es generalizing s with
  | nil => exact Grows.refl s
  | cons e es ih => exact ((writeReg_grows _ _ s).trans (advanceTix_grows _)).trans (ih _)

theorem bringUp_grows (p : Word16) (s : State) : Grows s (bringUp p s) := by
  unfold bringUp
  exact ((latchPanel_grows p s).trans (runEntries_grows _ _)).trans (finishPanel_grows _)

theorem lineSetup_grows (s : State) : Grows s (lineSetup s) := by
  have h : ∀ (ls : List Line) (s : State),
      Grows s (ls.foldl (fun s l => lineSetDir l .output (lineExport l s)) s) := by
    intro ls
    induction ls with
    | nil => exact Grows.refl
    | cons l ls ih => exact fun s => ((lineExport_grows l s).trans (lineSetDir_grows l _ _)).trans (ih _)
  exact h _ s

theorem displayReady_grows (s : State) : Grows s (displayReady s) := by
  unfold displayReady
  split_ifs
  · exact (lineSetup_grows s).trans (markInit_grows _)
  · exact Grows.refl s

/-- Every operation, from its issue to its return. -/
theorem bodyOf_grows (i : Instr) (s : State) : Grows s (bodyOf i s) := by
  cases i with
  | exportLine l => exact lineExport_grows l s
  | setdirIn l => exact lineSetDir_grows l _ s
  | setdirOut l => exact lineSetDir_grows l _ s
  | wrlevel0 l => exact lineWrite_grows l _ s
  | wrlevel1 l => exact lineWrite_grows l _ s
  | transmit w => exact sendWord_grows w s
  | writereg a v => exact writeReg_grows a v s
  | initpanel p => exact bringUp_grows p s
  | setdisplay b c =>
    simp only [bodyOf, displayBody_eq]
    exact (displayReady_grows s).trans (bringUp_grows _ _)
  | frameAddr a => exact sendWord_grows _ s
  | frameData v => exact sendWord_grows _ s
  | frameRaw w => exact sendWord_grows w s

theorem beginWrite_grows (a v : Word16) (s : State) : Grows s (beginWrite a v s) :=
  (latchWrite_grows a v s).trans (beginSend_grows _ _)

theorem loadEntry_grows (s : State) : Grows s (loadEntry s) := by
  unfold loadEntry
  split
  · exact beginWrite_grows _ _ s
  · exact (finishPanel_grows s).trans (returnToHost_grows _)

theorem afterWrite_grows (s : State) : Grows s (afterWrite s) := by
  unfold afterWrite
  split
  · exact (advanceTix_grows s).trans (loadEntry_grows _)
  · exact returnToHost_grows s

theorem afterSend_grows (s : State) : Grows s (afterSend s) := by
  unfold afterSend
  split
  · exact returnToHost_grows s
  · exact (enterData_grows s).trans (beginSend_grows _ _)
  · exact (finishWrite_grows s).trans (afterWrite_grows _)

theorem setupAttempt_grows (k : Fin 6) (s : State) : Grows s (setupAttempt k s) := by
  unfold setupAttempt
  split
  · exact lineExport_grows _ s
  · exact lineSetDir_grows _ _ s
  · exact lineExport_grows _ s
  · exact lineSetDir_grows _ _ s
  · exact lineExport_grows _ s
  · exact lineSetDir_grows _ _ s

theorem afterSetup_grows (k : Fin 6) (s : State) : Grows s (afterSetup k s) := by
  unfold afterSetup
  split
  · exact State.atClient_grows s _
  · exact ((markInit_grows s).trans (State.atClient_grows _ _)).trans (loadEntry_grows _)

/-- One micro-step of the operation in flight. -/
theorem seqStep_grows (s : State) : Grows s (seqStep s) := by
  unfold seqStep
  split
  · exact (setupAttempt_grows _ s).trans (afterSetup_grows _ _)
  · split
    · exact returnToHost_grows s
    · refine (microStep_grows s).trans ?_
      dsimp only
      split
      · exact (State.scrubW_grows _).trans (afterSend_grows _)
      · exact Grows.refl _

end Sys2Proof.Machine
end

