-- ==== Sys2Proof/Laws/Memory.lean ====
section
/-! SUPPORT. The ghost map (R31): every write keeps the canonical form, and a read gives the last value
written. -/

namespace Sys2Proof.Machine

/-- Every listed index is above `a`. -/
theorem Memory.wf_tail {a : Nat} {x : Word16} {m : Memory} (h : Memory.wf ((a, x) :: m) = true) :
    m.wf = true ∧ ∀ b ∈ m.map Prod.fst, a < b := by
  induction m generalizing a x with
  | nil => simp [Memory.wf]
  | cons c m ih =>
    obtain ⟨b, y⟩ := c
    simp only [Memory.wf, Bool.and_eq_true, decide_eq_true_eq] at h
    obtain ⟨_, hm⟩ := ih h.2
    refine ⟨h.2, ?_⟩
    simp only [List.map_cons, List.mem_cons, forall_eq_or_imp]
    exact ⟨h.1, fun c hc => h.1.trans (hm c hc)⟩

theorem Memory.wf_cons {a : Nat} {x : Word16} {m : Memory} (ha : a < 65536) (hm : m.wf = true)
    (hlt : ∀ b ∈ m.map Prod.fst, a < b) : Memory.wf ((a, x) :: m) = true := by
  cases m with
  | nil => simpa [Memory.wf] using ha
  | cons c m =>
    obtain ⟨b, y⟩ := c
    simp only [Memory.wf, Bool.and_eq_true, decide_eq_true_eq]
    exact ⟨hlt b (by simp), hm⟩

/-- A canonical map lists indices of the 65536 only. -/
theorem Memory.wf_lt {m : Memory} (h : m.wf = true) : ∀ b ∈ m.map Prod.fst, b < 65536 := by
  induction m with
  | nil => simp
  | cons c m ih =>
    obtain ⟨a, x⟩ := c
    obtain ⟨hm, hlt⟩ := Memory.wf_tail h
    simp only [List.map_cons, List.mem_cons, forall_eq_or_imp]
    refine ⟨?_, ih hm⟩
    cases m with
    | nil => simpa [Memory.wf] using h
    | cons d m => exact (hlt d.1 (by simp)).trans (ih hm d.1 (by simp))

theorem Memory.mem_write {m : Memory} {a : Nat} {v : Word16} :
    ∀ b ∈ (m.write a v).map Prod.fst, b = a ∨ b ∈ m.map Prod.fst := by
  induction m with
  | nil => simp [Memory.write]
  | cons c m ih =>
    obtain ⟨b, x⟩ := c
    unfold Memory.write
    split_ifs with h1 h2
    · simp
    · subst h2; simp
    · simp only [List.map_cons, List.mem_cons, forall_eq_or_imp, true_or, or_true, true_and]
      intro d hd
      rcases ih d hd with h | h <;> tauto

/-- A write keeps the canonical form. -/
theorem Memory.write_wf {m : Memory} (h : m.wf = true) {a : Nat} (ha : a < 65536) (v : Word16) :
    (m.write a v).wf = true := by
  induction m with
  | nil => simpa [Memory.write, Memory.wf] using ha
  | cons c m ih =>
    obtain ⟨b, x⟩ := c
    obtain ⟨hm, hlt⟩ := Memory.wf_tail h
    have hb := Memory.wf_lt h b (by simp)
    unfold Memory.write
    split_ifs with h1 h2
    · exact Memory.wf_cons ha h (by
        simp only [List.map_cons, List.mem_cons, forall_eq_or_imp]
        exact ⟨h1, fun d hd => h1.trans (hlt d hd)⟩)
    · subst h2; exact Memory.wf_cons ha hm hlt
    · refine Memory.wf_cons hb (ih hm) fun d hd => ?_
      rcases Memory.mem_write d hd with rfl | hd
      · omega
      · exact hlt d hd

/-- Reading the index just written gives the value written. -/
theorem Memory.read_write_same (m : Memory) (a : Nat) (v : Word16) : (m.write a v).read a = some v := by
  induction m with
  | nil => simp [Memory.write, Memory.read]
  | cons c m ih =>
    obtain ⟨b, x⟩ := c
    unfold Memory.write
    split_ifs with h1 h2
    · simp [Memory.read]
    · simp [Memory.read]
    · simp [Memory.read, h2, ih]

/-- A write leaves every other index alone. -/
theorem Memory.read_write_other (m : Memory) {a b : Nat} (v : Word16) (h : b ≠ a) :
    (m.write a v).read b = m.read b := by
  induction m with
  | nil => simp [Memory.write, Memory.read, h]
  | cons c m ih =>
    obtain ⟨d, x⟩ := c
    unfold Memory.write
    split_ifs with h1 h2
    · simp [Memory.read, h]
    · subst h2; simp [Memory.read, h]
    · simp [Memory.read, ih]

/-- Recording a register write keeps the canonical form. -/
theorem State.recordTarget_wf {s : State} (h : s.target.wf = true) (a v : Word16) :
    (s.recordTarget a v).target.wf = true :=
  Memory.write_wf h a.isLt v

end Sys2Proof.Machine
end

