-- ==== Sys2Proof/Laws/PerInstr.lean ====
section
/-! SUPPORT. Statements made of every instruction, one lemma per constructor. -/

namespace Sys2Proof.Laws.EncodingPins

/-- The line operand of an instruction, if it has one. -/
def lineOf : Instr → Option Line
  | .exportLine l => some l
  | .setdirIn l => some l
  | .setdirOut l => some l
  | .wrlevel0 l => some l
  | .wrlevel1 l => some l
  | .transmit _ => none
  | .writereg _ _ => none
  | .initpanel _ => none
  | .setdisplay _ _ => none
  | .frameAddr _ => none
  | .frameData _ => none
  | .frameRaw _ => none

/-- The encoding depends on no pin number but that of the instruction's own line (R52); a command word
and a wire word depend on none (R46, R50). -/
def Statement (i : Instr) : Prop :=
  ∀ pins pins' : PerLine Nat, (∀ l, lineOf i = some l → pins.get l = pins'.get l) →
    encode pins i = encode pins' i

theorem exportLine (l : Line) : Statement (.exportLine l) := fun _ _ h => by simp only [encode, h l rfl]

theorem setdirIn (l : Line) : Statement (.setdirIn l) := fun _ _ h => by simp only [encode, h l rfl]

theorem setdirOut (l : Line) : Statement (.setdirOut l) := fun _ _ h => by simp only [encode, h l rfl]

theorem wrlevel0 (l : Line) : Statement (.wrlevel0 l) := fun _ _ h => by simp only [encode, h l rfl]

theorem wrlevel1 (l : Line) : Statement (.wrlevel1 l) := fun _ _ h => by simp only [encode, h l rfl]

theorem transmit (w : Word24) : Statement (.transmit w) := fun _ _ _ => rfl

theorem writereg (a v : Word16) : Statement (.writereg a v) := fun _ _ _ => rfl

theorem initpanel (p : Word16) : Statement (.initpanel p) := fun _ _ _ => rfl

theorem setdisplay (b c : Byte) : Statement (.setdisplay b c) := fun _ _ _ => rfl

theorem frameAddr (a : Word16) : Statement (.frameAddr a) := fun _ _ _ => rfl

theorem frameData (v : Word16) : Statement (.frameData v) := fun _ _ _ => rfl

theorem frameRaw (w : Word24) : Statement (.frameRaw w) := fun _ _ _ => rfl

end Sys2Proof.Laws.EncodingPins
end

