-- ==== Sys2Proof/Laws/Sequencer.lean ====
section
/-! SUPPORT. The micro-steps of one transmission in flight. -/

namespace Sys2Proof.Machine

/-- No attempt of line set-up is next. -/
def NotInSetup (s : State) : Prop := ∀ k, s.client ≠ .lineSetup k

/-- A micro-step after which the transmission is still in flight. -/
theorem seqStep_within {s : State} {u u' : Fin 79} (hc : NotInSetup s) (hu : s.upc = some u)
    (hn : (microStep s).upc = some u') : seqStep s = microStep s := by
  unfold seqStep
  split
  · next k hk => exact absurd hk (hc k)
  · simp only [hu, hn]

/-- The last micro-step of a transmission, and its return to its caller. -/
theorem seqStep_last {s : State} {u : Fin 79} (hc : NotInSetup s) (hu : s.upc = some u)
    (hn : (microStep s).upc = none) : seqStep s = afterSend (microStep s).scrubW := by
  unfold seqStep
  split
  · next k hk => exact absurd hk (hc k)
  · simp only [hu, hn]

theorem microStep_iterate_upc (w : Word24) (s : State) {k : Nat} (hk : k ≤ 79) :
    (microStep^[k] (beginSend w s)).upc = if h : k < 79 then some ⟨k, h⟩ else none := by
  rw [microStep_iterate w s k hk]

theorem microStep_iterate_client (w : Word24) (s : State) {k : Nat} (hk : k ≤ 79) :
    (microStep^[k] (beginSend w s)).client = s.client := by
  rw [microStep_iterate w s k hk]
  exact (runActions_same _ s).client

/-- Before the last micro-step the sequencer does what the serializer does. -/
theorem seqStep_iterate (w : Word24) {s : State} (hc : NotInSetup s) {k : Nat} (hk : k < 79) :
    seqStep^[k] (beginSend w s) = microStep^[k] (beginSend w s) := by
  induction k with
  | zero => rfl
  | succ k ih =>
    have hk' : k < 79 := by omega
    have hu := microStep_iterate_upc w s hk'.le
    have hn := microStep_iterate_upc w s hk.le
    rw [dif_pos hk'] at hu
    rw [dif_pos hk, Function.iterate_succ_apply'] at hn
    rw [Function.iterate_succ_apply', ih hk', Function.iterate_succ_apply',
      seqStep_within (fun j => by rw [microStep_iterate_client w s hk'.le]; exact hc j) hu hn]

/-- After the last micro-step the transmission returns to its caller. -/
theorem seqStep_transmission (w : Word24) {s : State} (hc : NotInSetup s) :
    seqStep^[79] (beginSend w s) = afterSend (sendWord w s) := by
  have hu := microStep_iterate_upc w s (k := 78) (by omega)
  have hn := microStep_iterate_upc w s (k := 79) (by omega)
  have h79 : microStep^[79] (beginSend w s) = microStep (microStep^[78] (beginSend w s)) :=
    Function.iterate_succ_apply' _ _ _
  rw [dif_pos (by omega)] at hu
  rw [dif_neg (by omega), h79] at hn
  rw [show seqStep^[79] (beginSend w s) = seqStep (seqStep^[78] (beginSend w s)) from
    Function.iterate_succ_apply' _ _ _, seqStep_iterate w hc (by omega),
    seqStep_last (fun j => by rw [microStep_iterate_client w s (by omega)]; exact hc j) hu hn, sendWord, h79]

end Sys2Proof.Machine
end

