-- ==== Sys2Proof/Laws/Step.lean ====
section
/-! SUPPORT. What one step can do: all the ways in which it answers a next state. -/

namespace Sys2Proof.Machine

/-- A step that answers a next state performed the next micro-step of the operation in flight, or found
no request, or ran a request that decodes. -/
theorem step_cases {s t : State} (h : step s = .next t) :
    (s.busy = true ∧ t = seqStep s) ∨
    (s.busy = false ∧ s.port = [] ∧ t = s) ∨
    (s.busy = false ∧ ∃ item rest i, s.port = item :: rest ∧ decode s.params.pins item = .ok i ∧
      t = issued i (s.withPort rest)) := by
  unfold step at h
  split at h
  · next hb => exact .inl ⟨hb, by simpa using h.symm⟩
  · next hb =>
    have hb' : s.busy = false := by simpa using hb
    cases hp : s.port with
    | nil =>
      simp only [nextRequest, hp] at h
      exact .inr (.inl ⟨hb', rfl, by simpa using h.symm⟩)
    | cons item rest =>
      simp only [nextRequest, hp] at h
      split at h
      · next heq => cases heq
      · next i s' heq =>
        simp only [Option.some.injEq, Prod.mk.injEq] at heq
        obtain ⟨hd, rfl⟩ := heq
        rw [exec_eq_issue] at h
        exact .inr (.inr ⟨hb', item, rest, i, rfl, hd, (issue_next h).2⟩)
      · cases h

/-- The operation a step runs grows the state that has taken the request. -/
theorem issued_grows (i : Instr) (s : State) : Grows s (issued i s) :=
  ((State.raiseBusy_grows s).trans (bodyOf_grows i _)).trans (returnToHost_grows _)

end Sys2Proof.Machine
end

