-- ==== Sys2Proof/Tests/Slice0.lean ====
section
/-! SUPPORT. Tests on fixed values. Expected values come from spec/95_test_vectors.md (the vector is named
in each docstring) or from the encodings of spec/30_encoding.md; then one witness for each statement that
has hypotheses. -/

namespace Sys2Proof.Tests

open Sys2Proof.Machine

set_option maxRecDepth 100000

/-! ### The bench -/

/-- The illustrative table `T3` of 95_test_vectors.md section 3. -/
def tableT3 : PanelTable := [⟨0x0001#16, .const 0x0100#16⟩, ⟨0x0002#16, .packed⟩, ⟨0x0003#16, .const 0x00FF#16⟩]

/-- Parameters with a given table; pins 7, 42, 130. -/
def params (t : PanelTable) (policy : InitPolicy) : Params :=
  ⟨⟨7, 42, 130⟩, t, policy, Vector.ofFn fun i => BitVec.ofNat 8 (10 * i.val),
    Vector.ofFn fun i => BitVec.ofNat 8 (20 * i.val)⟩

/-- Reset with given drawn levels, answers and draws. -/
def fresh (h : PerLine Level) (answers : List Bool) (draws : List Level) : State :=
  { State.reset with
    level := h, history := [h], params := params [⟨0x0002#16, .packed⟩] .once, answers := answers, draws := draws }

/-- All lines owned with direction `out`. -/
def ready (h : PerLine Level) (answers : List Bool) : State :=
  { fresh h answers [] with
    owned := ⟨true, true, true⟩, dir := ⟨.output, .output, .output⟩ }

/-- "Ready and idle" of 95_test_vectors.md: levels `(1, 0, 0)`, `n` attempts answered `true`. -/
def idle (n : Nat) : State := ready ⟨true, false, false⟩ (List.replicate n true)

/-- Answers that fail attempt `j` only. -/
def failing (j n : Nat) : List Bool := (List.range n).map fun k => decide (k ≠ j)

/-- A state with a given list of requests. -/
def asking (items : List PortItem) (s : State) : State := s.withPort items

/-- The state after an operation. -/
def after (i : Instr) (s : State) : State := issued i s

/-- Bits written as digits. -/
def bitsOf (ds : List Nat) : List Level := ds.map fun d => decide (d = 1)

/-! ### Well-formedness: what is ill formed is refused -/

/-- R49: a word with top byte 0x70 is no raw frame. -/
theorem test_wf_raw_addr : (Instr.frameRaw 0x700001#24).wf = false := by decide

/-- R49: a word with top byte 0x72 is no raw frame. -/
theorem test_wf_raw_data : (Instr.frameRaw 0x720000#24).wf = false := by decide

/-- R49: top bytes 0x71 and 0x73 make raw frames (V6). -/
theorem test_wf_raw : (Instr.frameRaw 0x710000#24).wf = true ∧ (Instr.frameRaw 0x730000#24).wf = true := by
  decide

/-- R40: equal pin numbers are refused, whichever two are equal. -/
theorem test_pins_distinct :
    pinsDistinct ⟨7, 7, 130⟩ = false ∧ pinsDistinct ⟨7, 42, 7⟩ = false ∧
    pinsDistinct ⟨7, 42, 42⟩ = false ∧ pinsDistinct ⟨7, 42, 130⟩ = true := by decide

/-- R96: a table without a PACKED entry, and one with two, are refused; `T3` is not. -/
theorem test_table_packed :
    tablePacked [⟨0x0001#16, .const 0x0100#16⟩] = false ∧
    tablePacked [⟨0x0001#16, .packed⟩, ⟨0x0002#16, .packed⟩] = false ∧
    tablePacked tableT3 = true ∧ (params tableT3 .once).wf = true := by decide

/-! ### Decoding: words written out from the spec's encodings -/

/-- What a decoder's answer is, where it gives one. -/
def decoded (item : PortItem) : Option Instr :=
  match decode ⟨7, 42, 130⟩ item with
  | .ok i => some i
  | .error _ => none

/-- R52: pin 42 in decimal, bytes 0011dddd. -/
theorem test_decode_export :
    decoded (.driver .exportControl [0b00110100#8, 0b00110010#8]) = some (.exportLine .clk) := by decide

/-- R52: the text "in", opcode table 0110100101101110. -/
theorem test_decode_setdir_in :
    decoded (.driver (.direction 7) [0b01101001#8, 0b01101110#8]) = some (.setdirIn .cs) := by decide

/-- R52: the text "out", opcode table 011011110111010101110100. -/
theorem test_decode_setdir_out :
    decoded (.driver (.direction 130) [0b01101111#8, 0b01110101#8, 0b01110100#8]) =
      some (.setdirOut .data) := by decide

/-- R52: the text "0". -/
theorem test_decode_wrlevel0 :
    decoded (.driver (.value 42) [0b00110000#8]) = some (.wrlevel0 .clk) := by decide

/-- R52: the text "1". -/
theorem test_decode_wrlevel1 :
    decoded (.driver (.value 130) [0b00110001#8]) = some (.wrlevel1 .data) := by decide

/-- V7: `TRANSMIT 0x700001`. -/
theorem test_decode_transmit :
    decoded (.command 0b0000000000011100000000000000000001#34) = some (.transmit 0x700001#24) := by decide

/-- V7: `WRITEREG 0x0001, 0x1234`. -/
theorem test_decode_writereg :
    decoded (.command 0b0100000000000000010001001000110100#34) = some (.writereg 0x0001#16 0x1234#16) := by
  decide

/-- V7: `INITPANEL 0x8040`. -/
theorem test_decode_initpanel :
    decoded (.command 0b1000000000000000001000000001000000#34) = some (.initpanel 0x8040#16) := by decide

/-- V7: `SETDISPLAY 0x80, 0x40`. -/
theorem test_decode_setdisplay :
    decoded (.command 0b1100000000000000001000000001000000#34) = some (.setdisplay 0x80#8 0x40#8) := by
  decide

/-- V6: 0x700001 is an address frame, address 0x0001. -/
theorem test_decode_frame_addr :
    decoded (.wire 0b011100000000000000000001#24) = some (.frameAddr 0x0001#16) := by decide

/-- V6: 0x721234 is a data frame, value 0x1234. -/
theorem test_decode_frame_data :
    decoded (.wire 0b011100100001001000110100#24) = some (.frameData 0x1234#16) := by decide

/-- V6: 0xF20000 is a raw frame. -/
theorem test_decode_frame_raw :
    decoded (.wire 0b111100100000000000000000#24) = some (.frameRaw 0xF20000#24) := by decide

/-- V7: the five words refused by R51. -/
theorem test_refused_commands :
    decoded (.command 0x001000000#34) = none ∧ decoded (.command 0x0FF000000#34) = none ∧
    decoded (.command 0x200010000#34) = none ∧ decoded (.command 0x300010000#34) = none ∧
    decoded (.command 0x2FFFF8040#34) = none := by decide

/-- Log 12: a text the spec does not give, a leading zero and a foreign pin are refused. -/
theorem test_refused_texts :
    decoded (.driver (.value 42) [0x32#8]) = none ∧
    decoded (.driver .exportControl [0x30#8, 0x37#8]) = none ∧
    decoded (.driver (.value 8) [0x31#8]) = none := by decide

/-- The opcode table's own words, numbered as the table numbers them. -/
theorem test_table_words :
    decodeTableWord 16 0x696E = some (.setdirIn .cs) ∧ decodeTableWord 24 0x6F7574 = some (.setdirOut .cs) ∧
    decodeTableWord 8 0x30 = some (.wrlevel0 .cs) ∧ decodeTableWord 8 0x31 = some (.wrlevel1 .cs) ∧
    decodeTableWord 8 0x37 = some (.exportLine .cs) ∧
    decodeTableWord 40 0x100011234 = some (.writereg 0x0001#16 0x1234#16) ∧
    decodeTableWord 24 0x720000 = some (.frameData 0x0000#16) := by decide

/-! ### The line driver (V14) -/

/-- V14 step 3: a failed export. -/
theorem test_export_failed :
    let t := after (.exportLine .clk) (fresh ⟨true, true, true⟩ [false] [])
    t.owned = ⟨false, false, false⟩ ∧ t.diag = [⟨.diagExport, .clk⟩] ∧ t.trace = [.evExport .clk false] := by
  decide

/-- V14 step 4: an export. -/
theorem test_export_done :
    let t := after (.exportLine .clk) (fresh ⟨true, true, true⟩ [true] [])
    t.owned = ⟨false, true, false⟩ ∧ t.dir = ⟨.unset, .unset, .unset⟩ ∧ t.level = ⟨true, true, true⟩ ∧
    t.diag = [] := by decide

/-- V14 step 6: the level after a direction set is a draw. -/
theorem test_setdir_in :
    let t := after (.setdirIn .clk) { fresh ⟨true, true, true⟩ [true] [false] with owned := ⟨false, true, false⟩ }
    t.dir = ⟨.unset, .input, .unset⟩ ∧ t.level = ⟨true, false, true⟩ ∧ t.diag = [] := by decide

/-- V14 step 2: a direction set on a line that is not owned fails. -/
theorem test_setdir_out_not_owned :
    let t := after (.setdirOut .clk) (fresh ⟨true, true, true⟩ [true] [false])
    t.dir = ⟨.unset, .unset, .unset⟩ ∧ t.level = ⟨true, true, true⟩ ∧ t.diag = [⟨.diagDir, .clk⟩] := by
  decide

/-- V14 step 5: a write to an owned line of direction `unset` takes effect. -/
theorem test_wrlevel0_unset :
    let t := after (.wrlevel0 .clk) { fresh ⟨true, true, true⟩ [true] [] with owned := ⟨false, true, false⟩ }
    t.level = ⟨true, false, true⟩ ∧ t.trace = [.evWrite .clk false true] := by decide

/-- V14 step 7: an input is not driven. -/
theorem test_wrlevel1_input :
    let t := after (.wrlevel1 .clk)
      { fresh ⟨true, false, true⟩ [true] [] with owned := ⟨false, true, false⟩, dir := ⟨.unset, .input, .unset⟩ }
    t.level = ⟨true, false, true⟩ ∧ t.trace = [.evWrite .clk true false] ∧
    t.diag = [⟨.diagWrite, .clk⟩] := by decide

/-! ### The serializer -/

/-- V1: `TRANSMIT 0x700001`: the frame bit by bit, the end levels, the 79 events. -/
theorem test_transmit_v1 :
    let t := after (.transmit 0x700001#24) (idle 78)
    wireFrames t.history = [bitsOf [0,1,1,1,0,0,0,0, 0,0,0,0,0,0,0,0, 0,0,0,0,0,0,0,1]] ∧
    t.level = ⟨true, false, false⟩ ∧ t.trace.length = 79 ∧ t.diag = [] := by decide +kernel

/-- V12a: the data write of bit 19 dropped: the frame arrives as 0x780001. -/
theorem test_transmit_v12a :
    wireFrames (after (.transmit 0x700001#24) (ready ⟨true, false, false⟩ (failing 16 78))).history =
      [bitsOf [0,1,1,1,1,0,0,0, 0,0,0,0,0,0,0,0, 0,0,0,0,0,0,0,1]] := by decide +kernel

/-- R46: an address frame, address 0x00EF: the word 0x7000EF (V2). -/
theorem test_frame_addr :
    sampleWire (after (.frameAddr 0x00EF#16) (idle 78)).history =
      bitsOf [0,1,1,1,0,0,0,0, 0,0,0,0,0,0,0,0, 1,1,1,0,1,1,1,1] := by decide +kernel

/-- R46: a data frame, value 0xFFFF: the word 0x72FFFF (V2). -/
theorem test_frame_data :
    sampleWire (after (.frameData 0xFFFF#16) (idle 78)).history =
      bitsOf [0,1,1,1,0,0,1,0, 1,1,1,1,1,1,1,1, 1,1,1,1,1,1,1,1] := by decide +kernel

/-- A raw frame 0x123456 (V2). -/
theorem test_frame_raw :
    sampleWire (after (.frameRaw 0x123456#24) (idle 78)).history =
      bitsOf [0,0,0,1,0,0,1,0, 0,0,1,1,0,1,0,0, 0,1,0,1,0,1,1,0] := by decide +kernel

/-! ### The framer and the client -/

/-- V4: `WRITEREG 0x0001, 0x1234`: its two frames; the ghost map holds the value. -/
theorem test_writereg_v4 :
    let t := after (.writereg 0x0001#16 0x1234#16) (idle 156)
    wireFrames t.history = [bits24 0x700001#24, bits24 0x721234#24] ∧ t.trace.length = 158 ∧
    t.target = [(1, 0x1234#16)] := by decide +kernel

/-- V13d: the last write of chip-select dropped: the second window never closes. -/
theorem test_writereg_v13d :
    let t := after (.writereg 0x0001#16 0x1234#16) (ready ⟨true, false, false⟩ (failing 155 156))
    wireFrames t.history = [bits24 0x700001#24] ∧ t.level = ⟨false, false, false⟩ := by decide +kernel

/-- R95 with the table `T3`: the caller's word stands in the second write. -/
theorem test_initpanel_t3 :
    let t := after (.initpanel 0x8040#16)
      { idle 468 with params := params tableT3 .once }
    wireFrames t.history = [bits24 0x700001#24, bits24 0x720100#24, bits24 0x700002#24, bits24 0x728040#24,
      bits24 0x700003#24, bits24 0x7200FF#24] ∧ t.tix = 0 := by decide +kernel

/-- R97: brightness 0x80 and contrast 0x40 go out as 0x8040; the first call sets the lines up. -/
theorem test_setdisplay :
    let t := after (.setdisplay 0x80#8 0x40#8)
      (fresh ⟨true, false, false⟩ (List.replicate 162 true) [true, false, false])
    wireFrames t.history = [bits24 0x700002#24, bits24 0x728040#24] ∧ t.initDone = true ∧
    t.owned = ⟨true, true, true⟩ ∧ t.trace.length = 164 := by decide +kernel

/-- R95: an empty table issues nothing and returns. -/
theorem test_initpanel_empty :
    let t := after (.initpanel 0x8040#16) { idle 0 with params := params [] .once }
    t.trace = [] ∧ t.level = ⟨true, false, false⟩ ∧ t.busy = false := by decide

/-- V5: packing. -/
theorem test_pack : packDisplay 0x12#8 0x34#8 = 0x1234#16 ∧ packDisplay 0xFF#8 0x00#8 = 0xFF00#16 := by
  decide

/-- V15: index stepping. -/
theorem test_index : indexDown 0 = 0 ∧ indexUp 7 = 7 ∧ indexUp^[10] 3 = 7 ∧ indexDown^[10] 3 = 0 ∧
    indexDown (indexUp^[8] 0) = 6 := by decide

/-! ### The step -/

/-- R51: the port refuses a command word whose must-be-zero field is not zero. -/
theorem test_step_refuses :
    step (asking [.command 0x001000000#34] (idle 0)) = .refused .mustBeZero := rfl

/-- A step on a table word runs it: WRITEREG 0x00EF, 0xBEEF as the first request after reset (V4). -/
theorem test_step_runs_table_word :
    (stateAfter State.reset (step (State.reset.withFetchWord 40 0x100EFBEEF))).target =
      [(0xEF, 0xBEEF#16)] := by decide +kernel

/-! ### Witnesses: concrete states and operands that meet the hypotheses of a statement, all together -/

/-- An outcome that is a next state. -/
def isNext : Host.Outcome State Fault Refusal → Bool
  | .next _ => true
  | .fault _ => false
  | .refused _ => false

theorem next_of_isNext {o : Host.Outcome State Fault Refusal} (d : State) (h : isNext o = true) :
    o = .next (stateAfter d o) := by
  cases o with
  | next t => rfl
  | fault f => cases f
  | refused r => cases h

/-- The answer of a step that answers one. -/
def stepped (s : State) : State := stateAfter s (step s)

theorem idle_seqIdle (n : Nat) : SeqIdle (idle n) := ⟨rfl, rfl, rfl, rfl, rfl⟩

theorem ready_ready (h : PerLine Level) (answers : List Bool) : LinesReady (ready h answers) := by
  intro l
  cases l <;> exact ⟨rfl, nofun⟩

theorem idle_ready (n : Nat) : LinesReady (idle n) := ready_ready _ _

theorem fresh_noneOwned (h : PerLine Level) (answers : List Bool) (draws : List Level) :
    NoneOwned (fresh h answers draws) := by
  intro l
  cases l <;> rfl

theorem witness_DecodeOfEncode :
    pinsDistinct ⟨7, 42, 130⟩ = true ∧ (Instr.frameRaw 0x710000#24).wf = true ∧
    (Instr.exportLine .data).wf = true := by decide

theorem witness_EncodeOfDecode :
    decode ⟨7, 42, 130⟩ (.command 0x1FFFFFFFF#34) = .ok (.writereg 0xFFFF#16 0xFFFF#16) ∧
    decode ⟨7, 42, 130⟩ (.driver .exportControl [0x31#8, 0x33#8, 0x30#8]) = .ok (.exportLine .data) :=
  ⟨rfl, rfl⟩

/-- A must-be-zero field at the least and the greatest value that is not zero, for each opcode that has
one; and the nearest accepted words (V7). -/
theorem witness_MustBeZeroWordsRefused :
    (cmdOpcode 0x001000000#34 = 0#2 ∧ (0x001000000#34).extractLsb' 24 8 ≠ 0#8) ∧
    (cmdOpcode 0x0FF000000#34 = 0#2 ∧ (0x0FF000000#34).extractLsb' 24 8 ≠ 0#8) ∧
    (cmdOpcode 0x200010000#34 = 2#2 ∧ (0x200010000#34).extractLsb' 16 16 ≠ 0#16) ∧
    (cmdOpcode 0x3FFFF0000#34 = 3#2 ∧ (0x3FFFF0000#34).extractLsb' 16 16 ≠ 0#16) ∧
    (cmdOpcode 0x000FFFFFF#34 = 0#2 ∧ (0x000FFFFFF#34).extractLsb' 24 8 = 0#8) ∧
    (cmdOpcode 0x30000FFFF#34 = 3#2 ∧ (0x30000FFFF#34).extractLsb' 16 16 = 0#16) ∧
    (asking [.command 0x001000000#34] (idle 0)).busy = false ∧
    (asking [.command 0x001000000#34] (idle 0)).port = .command 0x001000000#34 :: [] := by decide

theorem witness_FrameClassification : (idle 78).busy = false := rfl

theorem witness_DisplayBytesArePacked :
    (idle 0).busy = false ∧ (idle 0).params.panelTable ≠ [] ∧ setupDue (idle 0) = true ∧
    setupDue { idle 0 with initDone := true } = false := by decide

/-- Both outcomes of the attempt. -/
theorem witness_ExportOutcome :
    (fresh ⟨true, true, true⟩ [true] []).busy = false ∧ (fresh ⟨true, true, true⟩ [true] []).okAt 0 = true ∧
    (fresh ⟨true, true, true⟩ [false] []).okAt 0 = false := by decide

/-- Success; a line not owned; a failed attempt. -/
theorem witness_SetdirOutcome :
    (idle 1).busy = false ∧ ((idle 1).owned.get .cs && (idle 1).okAt 0) = true ∧
    (fresh ⟨true, true, true⟩ [true] []).owned.get .cs = false ∧
    (ready ⟨true, true, true⟩ [false]).okAt 0 = false ∧
    (Instr.setdirIn .cs = .setdirIn .cs ∧ Dir.input = .input) ∧
    (Instr.setdirOut .cs = .setdirOut .cs ∧ Dir.output = .output) := by decide

/-- Effective; an input; a line not owned; a failed attempt. -/
theorem witness_WrlevelOutcome :
    (idle 1).busy = false ∧
    ((idle 1).owned.get .cs && (idle 1).dir.get .cs != .input && (idle 1).okAt 0) = true ∧
    ({ idle 1 with dir := ⟨.input, .output, .output⟩ } : State).dir.get .cs = .input ∧
    (fresh ⟨true, true, true⟩ [true] []).owned.get .cs = false ∧
    (ready ⟨true, true, true⟩ [false]).okAt 0 = false := by decide

theorem witness_LineOpsMakeOneAttempt :
    (idle 1).busy = false ∧ Instr.exportLine .clk ∈ ([.exportLine .clk, .setdirIn .clk, .setdirOut .clk,
      .wrlevel0 .clk, .wrlevel1 .clk] : List Instr) ∧
    Instr.wrlevel1 .clk ∈ ([.exportLine .clk, .setdirIn .clk, .setdirOut .clk, .wrlevel0 .clk,
      .wrlevel1 .clk] : List Instr) := by decide

/-- Reset lines, an EXPORT of pin 42 asked for: the step takes ownership of CLK and of no other line. -/
theorem witness_OwnershipComesFromExport :
    let s := asking [.driver .exportControl [0x34#8, 0x32#8]] (fresh ⟨true, true, true⟩ [true] [])
    step s = .next (stepped s) ∧ s.owned.get .clk = false ∧ (stepped s).owned.get .clk = true ∧
      (stepped s).owned.get .cs = false := by
  refine ⟨next_of_isNext _ (by decide), ?_⟩
  decide

/-- Chip-select driven low by an effective write. -/
theorem witness_LevelsChangeInTwoWays :
    let s := asking [.driver (.value 7) [0x30#8]] (idle 1)
    step s = .next (stepped s) ∧ (stepped s).level.get .cs ≠ s.level.get .cs := by
  refine ⟨next_of_isNext _ (by decide), ?_⟩
  decide

theorem witness_LogsOnlyGrow :
    let s := asking [.driver (.value 7) [0x30#8]] (fresh ⟨true, true, true⟩ [true] [])
    step s = .next (stepped s) ∧ s.trace ≠ (stepped s).trace ∧ s.diag ≠ (stepped s).diag := by
  refine ⟨next_of_isNext _ (by decide), ?_⟩
  decide

theorem witness_TransmitPerformsTheTable : SeqIdle (idle 78) := idle_seqIdle 78

theorem witness_FramesRunAsTransmissions : (idle 78).busy = false := rfl

theorem witness_TransmitAttemptCounts : (idle 78).busy = false := rfl

theorem witness_TransmitFrame :
    (idle 78).busy = false ∧ (∃ a, Instr.frameAddr 0x0001#16 = .frameAddr a) ∧
    (∃ v, Instr.frameData 0x1234#16 = .frameData v) := ⟨rfl, ⟨_, rfl⟩, ⟨_, rfl⟩⟩

/-- Ready lines, 78 attempts answered `true`; steps 1 and 3 in another order. -/
theorem witness_TransmitPutsWordOnWire :
    (idle 78).busy = false ∧ AllEff (idle 78) 78 ∧
    [.write .cs false, .write .data false, .write .clk false].Perm openingWrites ∧
    [.write .cs true, .write .clk false, .write .data false].Perm closingWrites := by
  refine ⟨rfl, ⟨idle_ready 78, ?_⟩, by decide, by decide⟩
  unfold AllOk
  decide +kernel

/-- A TRANSMIT whose last three writes were effective. -/
theorem witness_WireIdleAfterTransmission :
    exec (.transmit 0x700001#24) (idle 78) = .next (after (.transmit 0x700001#24) (idle 78)) ∧
    ∃ es, (after (.transmit 0x700001#24) (idle 78)).trace =
      es ++ [.evWrite .data false true, .evWrite .clk false true, .evWrite .cs true true] := by
  refine ⟨exec_ready rfl _, (after (.transmit 0x700001#24) (idle 78)).trace.take 76, ?_⟩
  decide +kernel

/-- The table is not empty. -/
theorem witness_WireIdleAfterTransmission_bringUp :
    exec (.initpanel 0x8040#16) (idle 156) = .next (after (.initpanel 0x8040#16) (idle 156)) ∧
    (idle 156).params.panelTable ≠ [] ∧
    ∃ es, (after (.initpanel 0x8040#16) (idle 156)).trace =
      es ++ [.evWrite .data false true, .evWrite .clk false true, .evWrite .cs true true] := by
  refine ⟨exec_ready rfl _, by decide, (after (.initpanel 0x8040#16) (idle 156)).trace.take 155, ?_⟩
  decide +kernel

theorem witness_UseBeforeSetupIsSilent :
    let s := fresh ⟨true, false, false⟩ [] []
    s.busy = false ∧ NoneOwned s ∧ (∃ p, Instr.initpanel 0x8040#16 = .initpanel p) ∧
    2 = 2 * s.params.panelTable.length :=
  ⟨rfl, fresh_noneOwned _ _ _, ⟨_, rfl⟩, rfl⟩

theorem witness_DroppedSelectHidesFrame :
    let s := ready ⟨true, false, false⟩ (failing 2 78)
    s.busy = false ∧ LinesReady s ∧ OnlyFails s 2 78 ∧ s.level.cs = true := by
  refine ⟨rfl, ready_ready _ _, ?_, rfl⟩
  unfold OnlyFails
  decide +kernel

/-- The first and the last bit whose rise, and whose fall, may be dropped. -/
theorem witness_DroppedClockWriteLosesBit :
    let s := fun j => ready ⟨true, false, false⟩ (failing j 78)
    (∀ j, (s j).busy = false ∧ LinesReady (s j)) ∧
    OnlyFails (s 5) 5 78 ∧ OnlyFails (s 74) 74 78 ∧ OnlyFails (s 6) 6 78 ∧ OnlyFails (s 72) 72 78 ∧
    (0 < 24 ∧ 5 = 5 + 3 * 0) ∧ (23 < 24 ∧ 74 = 5 + 3 * 23) ∧
    (1 ≤ 1 ∧ 1 < 24 ∧ 6 = 3 + 3 * 1) ∧ (1 ≤ 23 ∧ 23 < 24 ∧ 72 = 3 + 3 * 23) := by
  refine ⟨fun j => ⟨rfl, ready_ready _ _⟩, ?_⟩
  unfold OnlyFails
  decide +kernel

/-- The first and the last bit. -/
theorem witness_DroppedDataWriteRepeatsBit :
    let s := fun j => ready ⟨true, false, false⟩ (failing j 78)
    (∀ j, (s j).busy = false ∧ LinesReady (s j)) ∧
    OnlyFails (s 4) (4 + 3 * 0) 78 ∧ OnlyFails (s 73) (4 + 3 * 23) 78 ∧ 0 < 24 ∧ 23 < 24 := by
  refine ⟨fun j => ⟨rfl, ready_ready _ _⟩, ?_⟩
  unfold OnlyFails
  decide +kernel

theorem witness_DroppedDeselectJoinsFrames :
    let s := ready ⟨true, false, false⟩ (failing 77 156)
    s.busy = false ∧ LinesReady s ∧ OnlyFails s 77 156 := by
  refine ⟨rfl, ready_ready _ _, ?_⟩
  unfold OnlyFails
  decide +kernel

/-- The first and the last micro-step, of a bare transmission. -/
theorem witness_MicroStepsAreNumbered :
    let s := start (.transmit 0x700001#24) (idle 78)
    (s.busy = true ∧ s.upc = some 0 ∧ ∀ k, s.client ≠ .lineSetup k) ∧
    (∀ k, (s.atMicro (some 78)).client ≠ .lineSetup k) ∧ (s.atMicro (some 78)).busy = true ∧
    (s.atMicro (some 78)).upc = some 78 ∧ (s.atMicro (some 78)).phase = .none ∧
    (78 : Fin 79).val = 78 ∧ (0 : Fin 79).val + 1 < 79 := by
  refine ⟨⟨rfl, rfl, nofun⟩, nofun, rfl, rfl, rfl, rfl, by decide⟩

theorem witness_WriteregIsTwoTransmissions : (idle 156).busy = false := rfl

theorem witness_WriteregLooksLikeTwoTransmits :
    (idle 156).busy = false ∧ (0x710000#24).extractLsb' 16 8 ≠ 0x70#8 ∧
    (0x710000#24).extractLsb' 16 8 ≠ 0x72#8 := by decide

theorem witness_WriteregPutsTwoFramesOnWire : (idle 156).busy = false ∧ AllEff (idle 156) 156 := by
  refine ⟨rfl, idle_ready 156, ?_⟩
  unfold AllOk
  decide +kernel

theorem witness_WriteregAttemptCounts : (idle 156).busy = false := rfl

/-- A ghost map that holds other indices already, and an index beside the written one. -/
theorem witness_WriteregFrame :
    let s := { idle 156 with target := [(1, 0x0100#16), (0xFFFF, 0x00FF#16)] }
    s.busy = false ∧ s.target.wf = true ∧ 0xFFFF ≠ (0x0001#16).toNat := by decide

theorem witness_WriteregPositions : SeqIdle (idle 156) ∧ 0 < 79 ∧ 78 < 79 :=
  ⟨idle_seqIdle 156, by decide, by decide⟩

theorem witness_CallerWordGoesInOnePlace : tablePacked (params tableT3 .once).panelTable = true := by decide

theorem witness_InitpanelIssuesTheTable : SeqIdle { idle 468 with params := params tableT3 .once } :=
  ⟨rfl, rfl, rfl, rfl, rfl⟩

/-- Set-up due on the first call and on every call; not due on a later one. -/
theorem witness_SetdisplayExpands :
    SeqIdle (idle 0) ∧ (idle 0).initDone = false ∧
    SeqIdle { idle 0 with initDone := true, params := params tableT3 .everyCall } ∧
    (params tableT3 .everyCall).initPolicy = .everyCall ∧
    SeqIdle { idle 0 with initDone := true } ∧
    ¬ (({ idle 0 with initDone := true } : State).params.initPolicy = .everyCall ∨
      ({ idle 0 with initDone := true } : State).initDone = false) := by
  refine ⟨idle_seqIdle 0, rfl, ⟨rfl, rfl, rfl, rfl, rfl⟩, rfl, ⟨rfl, rfl, rfl, rfl, rfl⟩, by decide⟩

theorem witness_BringUpCounts : (idle 0).busy = false := rfl

theorem witness_InitpanelFramesOnWire :
    (idle 156).busy = false ∧ AllEff (idle 156) (156 * (idle 156).params.panelTable.length) := by
  refine ⟨rfl, idle_ready 156, ?_⟩
  unfold AllOk
  decide +kernel

/-- All attempts answered `true`; the draws of line set-up are the idle wire. -/
theorem witness_SetdisplayBitsOnWire :
    let s := fresh ⟨true, false, false⟩ (List.replicate 162 true) [true, false, false]
    let u := stateAfter s (execAll setupOps s)
    SeqIdle s ∧ setupDue s = true ∧ AllOk s (6 + 156 * s.params.panelTable.length) ∧
    execAll setupOps s = .next u ∧ QuietConfig s u := by
  refine ⟨⟨rfl, rfl, rfl, rfl, rfl⟩, rfl, ?_, next_of_isNext _ (by decide +kernel), ?_⟩
  · unfold AllOk
    decide +kernel
  · unfold QuietConfig
    decide +kernel

theorem witness_FailedSetupStillRuns :
    let s := fresh ⟨true, false, false⟩ [false, true, false, true, false, true] []
    s.busy = false ∧ NoneOwned s ∧ setupDue s = true ∧
    (s.okAt 0 = false ∧ s.okAt 2 = false ∧ s.okAt 4 = false) :=
  ⟨rfl, fresh_noneOwned _ _ _, rfl, rfl, rfl, rfl⟩

/-- Both operations answer a next state; set-up not due; an index the table does not name. -/
theorem witness_BringUpFrame :
    let s := { idle 156 with initDone := true }
    SeqIdle s ∧ exec (.initpanel 0x8040#16) s = .next (after (.initpanel 0x8040#16) s) ∧
    exec (.setdisplay 0x80#8 0x40#8) s = .next (after (.setdisplay 0x80#8 0x40#8) s) ∧
    setupDue s = false ∧ ∀ e ∈ s.params.panelTable, e.reg.toNat ≠ 3 :=
  ⟨⟨rfl, rfl, rfl, rfl, rfl⟩, exec_ready rfl _, exec_ready rfl _, rfl, by decide⟩

theorem witness_IndexStepsSaturate : 0 ≤ 7 ∧ 7 ≤ 7 := by decide

theorem witness_StepRunsDecodedOperation :
    let s := asking [.command 0x100011234#34, .wire 0x700001#24] (idle 156)
    s.busy = false ∧ s.port = .command 0x100011234#34 :: [.wire 0x700001#24] ∧
    decode s.params.pins (.command 0x100011234#34) = .ok (.writereg 0x0001#16 0x1234#16) := ⟨rfl, rfl, rfl⟩

theorem witness_RequestsRunInOrder :
    let is := [Instr.exportLine .cs, .setdirOut .cs, .frameRaw 0xF20000#24]
    let s := asking (is.map (encode ⟨7, 42, 130⟩)) (fresh ⟨true, true, true⟩ [] [])
    SeqIdle s ∧ pinsDistinct s.params.pins = true ∧ (∀ i ∈ is, i.wf = true) ∧
    s.port = is.map (encode s.params.pins) :=
  ⟨⟨rfl, rfl, rfl, rfl, rfl⟩, rfl, by decide, rfl⟩

theorem witness_EveryOperationReturns : (fresh ⟨false, true, true⟩ [] []).busy = false := rfl

theorem witness_BusyPortRefuses : (start (.transmit 0x700001#24) (idle 78)).busy = true := rfl

theorem witness_IdleBlockWaits : (idle 0).busy = false ∧ (idle 0).port = [] := ⟨rfl, rfl⟩

theorem idle_inv (n : Nat) (items : List PortItem) : Inv (asking items (idle n)) :=
  ⟨rfl, rfl, rfl, rfl, idle_seqIdle n⟩

/-- A step that runs an operation, and a step of an operation in flight. -/
theorem witness_StepKeepsInv :
    let s := asking [.driver (.value 7) [0x30#8]] (idle 1)
    let s' := start (.writereg 0x0001#16 0x1234#16) (idle 156)
    (Inv s ∧ step s = .next (stepped s)) ∧ (Inv s' ∧ step s' = .next (stepped s')) := by
  refine ⟨⟨idle_inv _ _, next_of_isNext _ (by decide)⟩, ⟨rfl, rfl, rfl, rfl, ?_⟩, next_of_isNext _ (by decide)⟩
  exact ⟨nofun, rfl⟩

theorem witness_SequencerAgreesWithExec : SeqIdle (fresh ⟨true, false, false⟩ [] []) :=
  ⟨rfl, rfl, rfl, rfl, rfl⟩

theorem witness_ParametersAreFixed :
    let s := asking [.driver (.value 7) [0x30#8]] (idle 1)
    step s = .next (stepped s) := next_of_isNext _ (by decide)

end Sys2Proof.Tests
end

/-! PROOFS. The statements about the state: what reset leaves (R24), and where ownership of a line comes
from (R12). -/

namespace Sys2Proof.Machine

/-! ### Reset (R24) -/

@[simp] theorem State.reset_owned_get (l : Line) : State.reset.owned.get l = false := by cases l <;> rfl

@[simp] theorem State.reset_dir_get (l : Line) : State.reset.dir.get l = .unset := by cases l <;> rfl

@[simp] theorem State.reset_level_get (l : Line) : State.reset.level.get l = Config.resetLevel l := by
  cases l <;> rfl

/-- Settles O48: the registers of each line, then the sequencer, the control bits and the logs. -/
theorem resetLeavesNothingSetUp : Obligations.ResetLeavesNothingSetUp :=
  ⟨fun l => ⟨State.reset_owned_get l, State.reset_dir_get l, State.reset_level_get l⟩,
    rfl, rfl, rfl, rfl, rfl, rfl, rfl⟩

/-! ### Growth in one step -/

/-- The events by which a state has grown are those since. -/
theorem GrowsBy.eventsSince_eq {s t : State} {es : List Event} (h : GrowsBy s t es) :
    eventsSince s t = es := by
  simp [eventsSince, h.trace]

/-- A step is growth of the state whose request, if the step took one, has been taken. -/
theorem step_grows {s t : State} (h : step s = .next t) :
    ∃ rest, (rest = s.port ∨ rest = s.port.tail) ∧ Grows (s.withPort rest) t := by
  rcases step_cases h with ⟨-, rfl⟩ | ⟨-, -, rfl⟩ | ⟨-, item, rest, i, hport, -, rfl⟩
  · exact ⟨s.port, .inl rfl, seqStep_grows s⟩
  · exact ⟨t.port, .inl rfl, Grows.refl t⟩
  · exact ⟨rest, .inr (by rw [hport, List.tail_cons]), issued_grows i _⟩

/-! ### Ownership (R12) -/

/-- Settles O13: growth says it of the events of any stretch, and a step is growth. -/
theorem ownershipComesFromExport : Obligations.OwnershipComesFromExport := by
  intro s t l h
  obtain ⟨rest, -, es, hg⟩ := step_grows h
  have hes : eventsSince s t = es := hg.eventsSince_eq
  rw [hes]
  refine ⟨hg.owned l, fun hfree => ?_⟩
  have hstays : ∀ e ∈ es, ¬ e.moves l := hg.dropped l hfree
  exact ⟨fun b eff he => by simpa [Event.moves] using hstays _ he,
    fun d ok he => by simpa [Event.moves] using hstays _ he⟩

end Sys2Proof.Machine

/-! PROOFS. The encodings of spec/30_encoding.md: which command words spell an operation (R51), the
classification of a wire word (R49), and the frames as concatenations and sums (R47). -/

namespace Sys2Proof

/-! ### Frames (R47) -/

/-- OR-ing an operand under a tag concatenates them: the tag's word is zero where the operand stands. -/
theorem tag_or_operand (t : Byte) (x : Word16) : (t ++ 0#16) ||| x.setWidth 24 = t ++ x := by
  ext i hi
  simp only [BitVec.getElem_or, BitVec.getElem_append, BitVec.getElem_setWidth]
  split
  · next h => simp [h]
  · next h => simp [BitVec.getLsbD_of_ge x i (by omega)]

/-- Adding an operand under a tag is OR-ing it: no bit is set in both, so nothing carries. -/
theorem tag_add_operand (t : Byte) (x : Word16) :
    (t ++ 0#16) + x.setWidth 24 = (t ++ 0#16) ||| x.setWidth 24 := by
  refine BitVec.add_eq_or_of_and_eq_zero _ _ ?_
  ext i hi
  simp only [BitVec.getElem_and, BitVec.getElem_append, BitVec.getElem_setWidth]
  split
  · simp
  · next h => simp [BitVec.getLsbD_of_ge x i (by omega)]

/-! ### Wire words (R49) -/

theorem decodeFrame_of_tagAddr {f : Word24} (h : frameTag f = Config.tagAddr) :
    decodeFrame f = .frameAddr (f.extractLsb' 0 16) := if_pos h

theorem decodeFrame_of_tagData {f : Word24} (h : frameTag f = Config.tagData) :
    decodeFrame f = .frameData (f.extractLsb' 0 16) := by
  have hne : frameTag f ≠ Config.tagAddr := by rw [h]; decide
  rw [decodeFrame, if_neg hne, if_pos h]

theorem decodeFrame_of_other {f : Word24} (ha : frameTag f ≠ Config.tagAddr)
    (hd : frameTag f ≠ Config.tagData) : decodeFrame f = .frameRaw f := by
  rw [decodeFrame, if_neg ha, if_neg hd]

/-! ### Command words (R50, R51) -/

theorem cmdOpcode_cases (c : Cmd34) :
    cmdOpcode c = 0#2 ∨ cmdOpcode c = 1#2 ∨ cmdOpcode c = 2#2 ∨ cmdOpcode c = 3#2 := by
  generalize cmdOpcode c = o
  revert o
  decide

theorem decodeCommand_of_opcode0 {c : Cmd34} (h : cmdOpcode c = 0#2) :
    decodeCommand c = if c.extractLsb' 24 8 = 0#8 then .ok (.transmit (c.extractLsb' 0 24))
      else .error .mustBeZero := by
  simp only [decodeCommand, h]

theorem decodeCommand_of_opcode1 {c : Cmd34} (h : cmdOpcode c = 1#2) :
    decodeCommand c = .ok (.writereg (c.extractLsb' 16 16) (c.extractLsb' 0 16)) := by
  simp only [decodeCommand, h]

theorem decodeCommand_of_opcode2 {c : Cmd34} (h : cmdOpcode c = 2#2) :
    decodeCommand c = if c.extractLsb' 16 16 = 0#16 then .ok (.initpanel (c.extractLsb' 0 16))
      else .error .mustBeZero := by
  simp only [decodeCommand, h]

theorem decodeCommand_of_opcode3 {c : Cmd34} (h : cmdOpcode c = 3#2) :
    decodeCommand c = if c.extractLsb' 16 16 = 0#16
      then .ok (.setdisplay (c.extractLsb' 8 8) (c.extractLsb' 0 8)) else .error .mustBeZero := by
  simp only [decodeCommand, h]

/-- The word's opcode has a must-be-zero field and the field is not zero (R51). -/
def MustBeZeroFieldSet (c : Cmd34) : Prop :=
  (cmdOpcode c = 0#2 ∧ c.extractLsb' 24 8 ≠ 0#8) ∨
    ((cmdOpcode c = 2#2 ∨ cmdOpcode c = 3#2) ∧ c.extractLsb' 16 16 ≠ 0#16)

theorem decodeCommand_of_mustBeZeroFieldSet {c : Cmd34} (h : MustBeZeroFieldSet c) :
    decodeCommand c = .error .mustBeZero := by
  obtain ⟨h0, hf⟩ | ⟨h2 | h3, hf⟩ := h
  · rw [decodeCommand_of_opcode0 h0, if_neg hf]
  · rw [decodeCommand_of_opcode2 h2, if_neg hf]
  · rw [decodeCommand_of_opcode3 h3, if_neg hf]

theorem decodeCommand_of_not_mustBeZeroFieldSet {c : Cmd34} (h : ¬ MustBeZeroFieldSet c) :
    ∃ i, decodeCommand c = .ok i := by
  obtain h0 | h1 | h2 | h3 := cmdOpcode_cases c
  · have hz : c.extractLsb' 24 8 = 0#8 := by_contra fun hf => h (.inl ⟨h0, hf⟩)
    exact ⟨_, by rw [decodeCommand_of_opcode0 h0, if_pos hz]⟩
  · exact ⟨_, decodeCommand_of_opcode1 h1⟩
  · have hz : c.extractLsb' 16 16 = 0#16 := by_contra fun hf => h (.inr ⟨.inl h2, hf⟩)
    exact ⟨_, by rw [decodeCommand_of_opcode2 h2, if_pos hz]⟩
  · have hz : c.extractLsb' 16 16 = 0#16 := by_contra fun hf => h (.inr ⟨.inr h3, hf⟩)
    exact ⟨_, by rw [decodeCommand_of_opcode3 h3, if_pos hz]⟩

namespace Machine

/-- A ready port refuses a request that spells no operation, with the decoder's reason. -/
theorem step_of_decode_error {s : State} {item : PortItem} {rest : List PortItem} {e : DecodeError}
    (hbusy : s.busy = false) (hport : s.port = item :: rest)
    (hdec : decode s.params.pins item = .error e) : step s = .refused (refusalOf e) := by
  have hreq : nextRequest s = some (.error e, s.withPort rest) := by simp only [nextRequest, hport, hdec]
  simp [step, hbusy, hreq]

/-- Settles O4: by opcode, the decoder looks at the field and at nothing else; the port refuses what
the decoder does. -/
theorem mustBeZeroWordsRefused : Obligations.MustBeZeroWordsRefused := by
  intro c
  refine ⟨fun hbad s rest hbusy hport => ?_, fun hgood => ?_⟩
  · exact step_of_decode_error hbusy hport (decodeCommand_of_mustBeZeroFieldSet hbad)
  · obtain ⟨i, hi⟩ := decodeCommand_of_not_mustBeZeroFieldSet hgood
    exact ⟨i, fun _ => hi⟩

/-- Settles O5: the three cases of the top byte; TRANSMIT, like every operation, answers at a ready port. -/
theorem frameClassification : Obligations.FrameClassification := by
  intro pins f
  refine ⟨congrArg Except.ok ?_, fun s hbusy => ⟨_, exec_ready hbusy (.transmit f)⟩⟩
  split_ifs with haddr hdata
  · exact decodeFrame_of_tagAddr haddr
  · exact decodeFrame_of_tagData hdata
  · exact decodeFrame_of_other haddr hdata

/-- Settles O6: each constant of R47 is its tag above sixteen zero bits. -/
theorem framesAreConcatenations : Obligations.FramesAreConcatenations := by
  intro x
  have haddr : 0x700000#24 = 0x70#8 ++ 0#16 := by decide
  have hdata : 0x720000#24 = 0x72#8 ++ 0#16 := by decide
  rw [addrFrame, dataFrame, haddr, hdata, tag_add_operand, tag_add_operand, tag_or_operand, tag_or_operand]
  exact ⟨rfl, rfl, rfl, rfl⟩

end Machine

end Sys2Proof

/-! PROOFS. The line-driver operations of spec/40_gpio_line_ops.md: the whole effect of EXPORT (R60), of
SETDIR (R61) and of WRLEVEL (R62), and that each is one attempt, logged once (R63). -/

namespace Sys2Proof.Machine

/-! ### An attempt under `BUSY` (R18) -/

/-- The operation neither reads nor writes `BUSY`. -/
def IgnoresBusy (f : State → State) : Prop :=
  ∀ (s : State) (b : Bool), f { s with busy := b } = { f s with busy := b }

theorem lineExport_ignoresBusy (l : Line) : IgnoresBusy (lineExport l) := fun s b => by
  rw [lineExport_eq, lineExport_eq]; rfl

theorem lineSetDir_ignoresBusy (l : Line) (d : Dir) : IgnoresBusy (lineSetDir l d) := fun s b => by
  rw [lineSetDir_eq, lineSetDir_eq]; rfl

theorem lineWrite_ignoresBusy (l : Line) (b : Level) : IgnoresBusy (lineWrite l b) := fun s b' => by
  rw [lineWrite_eq, lineWrite_eq]; rfl

/-- `BUSY` is false before the issue and after the return, so an operation that ignores it leaves what
its body leaves. -/
theorem exec_of_ignoresBusy {i : Instr} {s : State} (hi : IgnoresBusy (bodyOf i)) (h : s.busy = false) :
    exec i s = .next (bodyOf i s) := by
  have hready : { s with busy := false } = s := by rw [← h]
  have hissued : issued i s = bodyOf i s := calc
    issued i s = returnToHost { bodyOf i s with busy := true } := congrArg returnToHost (hi s true)
    _ = bodyOf i { s with busy := false } := (hi s false).symm
    _ = bodyOf i s := by rw [hready]
  rw [exec_ready h, hissued]

section
variable {s : State} (h : s.busy = false) (l : Line)
include h

theorem exec_exportLine : exec (.exportLine l) s = .next (lineExport l s) :=
  exec_of_ignoresBusy (lineExport_ignoresBusy l) h

theorem exec_setdirIn : exec (.setdirIn l) s = .next (lineSetDir l .input s) :=
  exec_of_ignoresBusy (lineSetDir_ignoresBusy l .input) h

theorem exec_setdirOut : exec (.setdirOut l) s = .next (lineSetDir l .output s) :=
  exec_of_ignoresBusy (lineSetDir_ignoresBusy l .output) h

theorem exec_wrlevel0 : exec (.wrlevel0 l) s = .next (lineWrite l false s) :=
  exec_of_ignoresBusy (lineWrite_ignoresBusy l false) h

theorem exec_wrlevel1 : exec (.wrlevel1 l) s = .next (lineWrite l true s) :=
  exec_of_ignoresBusy (lineWrite_ignoresBusy l true) h

end

/-! ### The outcomes (R60 to R62) -/

/-- Settles O9: at a ready port EXPORT is its attempt. -/
theorem exportOutcome : Obligations.ExportOutcome := by
  intro l s h
  rw [exec_exportLine h, lineExport_eq]

/-- Settles O10: at a ready port each form of SETDIR is the attempt with its direction. -/
theorem setdirOutcome : Obligations.SetdirOutcome := by
  rintro l s i d h (⟨rfl, rfl⟩ | ⟨rfl, rfl⟩)
  · rw [exec_setdirIn h, lineSetDir_eq]
  · rw [exec_setdirOut h, lineSetDir_eq]

/-- Settles O11: at a ready port each form of WRLEVEL is the attempt with its level. -/
theorem wrlevelOutcome : Obligations.WrlevelOutcome := by
  rintro l s i b h (⟨rfl, rfl⟩ | ⟨rfl, rfl⟩)
  · rw [exec_wrlevel0 h, lineWrite_eq]
  · rw [exec_wrlevel1 h, lineWrite_eq]

/-! ### One attempt, one event, one diagnostic if it failed (R63) -/

/-- From `s` to `t` one attempt was made: one answer taken, one event appended, and the diagnostic of
that event's failure if its flag is false. -/
def OneAttempt (s t : State) : Prop :=
  ∃ e : Event, t.asked = s.asked + 1 ∧ t.trace = s.trace ++ [e] ∧ t.diag = s.diag ++ e.failure.toList

/-- A log that keeps its value on success and gains an entry otherwise gains that entry as an option. -/
theorem append_unless (ok : Bool) (log : List Diag) (x : Diag) :
    (if ok then log else log ++ [x]) = log ++ (if ok then none else some x).toList := by
  cases ok
  · rfl
  · exact (List.append_nil log).symm

theorem lineExport_oneAttempt (l : Line) (s : State) : OneAttempt s (lineExport l s) := by
  rw [lineExport_eq]
  exact ⟨_, rfl, rfl, append_unless _ _ _⟩

theorem lineSetDir_oneAttempt (l : Line) (d : Dir) (s : State) : OneAttempt s (lineSetDir l d s) := by
  rw [lineSetDir_eq]
  exact ⟨_, rfl, rfl, append_unless _ _ _⟩

theorem lineWrite_oneAttempt (l : Line) (b : Level) (s : State) : OneAttempt s (lineWrite l b s) := by
  rw [lineWrite_eq]
  exact ⟨_, rfl, rfl, append_unless _ _ _⟩

/-- An operation that answers a state one attempt later meets R63. -/
theorem OneAttempt.of_exec {i : Instr} {s t : State} (ht : OneAttempt s t) (hexec : exec i s = .next t) :
    ∃ t e, exec i s = .next t ∧ t.asked = s.asked + 1 ∧ t.trace = s.trace ++ [e] ∧
      t.diag = s.diag ++ e.failure.toList := by
  obtain ⟨e, hasked, htrace, hdiag⟩ := ht
  exact ⟨t, e, hexec, hasked, htrace, hdiag⟩

/-- Settles O12: by the five operations, each of which is one of the three attempts. -/
theorem lineOpsMakeOneAttempt : Obligations.LineOpsMakeOneAttempt := by
  intro l s i h hi
  simp only [List.mem_cons, List.not_mem_nil, or_false] at hi
  obtain rfl | rfl | rfl | rfl | rfl := hi
  · exact (lineExport_oneAttempt l s).of_exec (exec_exportLine h l)
  · exact (lineSetDir_oneAttempt l .input s).of_exec (exec_setdirIn h l)
  · exact (lineSetDir_oneAttempt l .output s).of_exec (exec_setdirOut h l)
  · exact (lineWrite_oneAttempt l false s).of_exec (exec_wrlevel0 h l)
  · exact (lineWrite_oneAttempt l true s).of_exec (exec_wrlevel1 h l)

end Sys2Proof.Machine

/-! PROOFS. The serializer of spec/41_spi_transmit.md: a transmission is the 79 micro-steps of R71, performed
in order, one at a time. -/

namespace Sys2Proof.Machine

/-! ### The table's first actions (R71) -/

theorem transmitScript_length (w : Word24) : (transmitScript w).length = 79 := by
  rw [transmitScript_eq_table, List.length_map, List.length_range]

theorem transmitScript_take (w : Word24) {k : Nat} (hk : k ≤ 79) :
    (transmitScript w).take k = (List.range k).map (microAction w) := by
  rw [transmitScript_eq_table, ← List.map_take, List.take_range, Nat.min_eq_left hk]

/-! ### The actions performed between two states -/

/-- Since `s` the trace of `t` has only grown, and its new events are the actions `ms`, in order. -/
def Performed (s t : State) (ms : List MicroAction) : Prop :=
  t.trace = s.trace ++ eventsSince s t ∧ (eventsSince s t).map Event.action = ms.map some

/-- The events of a list of actions perform it, whatever the environment answers. -/
theorem Performed.of_trace {s t u : State} {k : Nat} {ms : List MicroAction}
    (h : t.trace = s.trace ++ actionEvents u k ms) : Performed s t ms := by
  have hes : eventsSince s t = actionEvents u k ms := by rw [eventsSince, h, List.drop_left]
  exact ⟨by rw [hes, h], by rw [hes, actionEvents_action]⟩

/-! ### A bare transmission from an idle state -/

section
variable {s : State} (hs : SeqIdle s) (w : Word24)
include hs

/-- Issuing an operation at an idle state puts no attempt of line set-up next. -/
theorem SeqIdle.notInSetup_raiseBusy : NotInSetup s.raiseBusy := by
  obtain ⟨-, -, -, hclient, -⟩ := hs
  intro k
  rw [State.raiseBusy_client, hclient]
  exact Client.noConfusion

/-- Before its last micro-step a transmission is in flight at position `k`, with the word in the latch and
the table's first `k` actions performed. -/
theorem SeqIdle.seqStep_iterate_transmit {k : Nat} (hk : k < 79) :
    seqStep^[k] (start (.transmit w) s) =
      { runActions ((transmitScript w).take k) s.raiseBusy with w := w, upc := some ⟨k, hk⟩ } := calc
  seqStep^[k] (start (.transmit w) s) = microStep^[k] (beginSend w s.raiseBusy) :=
    seqStep_iterate w hs.notInSetup_raiseBusy hk
  _ = { runActions ((transmitScript w).take k) s.raiseBusy with w := w, upc := some ⟨k, hk⟩ } := by
    rw [microStep_iterate w _ k hk.le, dif_pos hk, transmitScript_take w hk.le]

/-- After the last micro-step the framer is in no phase, so the transmission returns to the host: this
is what the whole operation leaves. -/
theorem SeqIdle.seqStep_iterate_transmit_end :
    seqStep^[79] (start (.transmit w) s) = issued (.transmit w) s := by
  have ⟨_, _, hphase, _, _⟩ := hs
  obtain ⟨-, -, -, -, hkeep, -, -⟩ := sendWord_rest w s.raiseBusy
  have hnone : (sendWord w s.raiseBusy).phase = .none := hkeep.trans hphase
  calc
    seqStep^[79] (start (.transmit w) s) = afterSend (sendWord w s.raiseBusy) :=
      seqStep_transmission w hs.notInSetup_raiseBusy
    _ = returnToHost (sendWord w s.raiseBusy) := by simp only [afterSend, hnone]

theorem SeqIdle.issued_transmit : SeqIdle (issued (.transmit w) s) := by
  obtain ⟨-, -, hphase, hclient, htix⟩ := hs
  obtain ⟨hrest, hupc, -, -, hkeep, -, -⟩ := sendWord_rest w s.raiseBusy
  rw [issued, bodyOf, SeqIdle, returnToHost_busy, returnToHost_upc, returnToHost_phase,
    returnToHost_client, returnToHost_tix]
  exact ⟨rfl, hupc, hkeep.trans hphase, hrest.client.trans hclient, hrest.tix.trans htix⟩

end

/-- Settles O16: each position by the state after `k` micro-steps, the return by the state the whole
operation leaves. -/
theorem transmitPerformsTheTable : Obligations.TransmitPerformsTheTable := by
  intro w s hs
  have ⟨hbusy, _⟩ := hs
  refine ⟨transmitScript_length w, fun k hk => ?_, ?_⟩
  · have hsame := runActions_same ((transmitScript w).take k) s.raiseBusy
    obtain ⟨htrace, -⟩ := runActions_logs (Continues.refl s.raiseBusy) ((transmitScript w).take k)
    rw [hs.seqStep_iterate_transmit w hk]
    exact ⟨rfl, hsame.busy, rfl, Performed.of_trace htrace⟩
  · obtain ⟨htrace, -⟩ := issued_logs (i := .transmit w) (s := s) rfl
    exact ⟨_, exec_ready hbusy _, (hs.seqStep_iterate_transmit_end w).symm, hs.issued_transmit w,
      Performed.of_trace htrace⟩

end Sys2Proof.Machine

/-! PROOFS. The framer of spec/42_register_write.md: a register write is the address frame and then the data
frame (R87), and its positions while it is in flight (R88). -/

namespace Sys2Proof.Machine

/-! ### Actions performed one stretch after another -/

/-- A state that is at the line driver what a list of actions leaves has performed it. -/
theorem SameDriver.performed {s t : State} {ms : List MicroAction} (h : SameDriver t (runActions ms s)) :
    Performed s t ms := by
  obtain ⟨-, -, -, hsame, -⟩ := h
  obtain ⟨htrace, -⟩ := runActions_logs (Continues.refl s) ms
  exact Performed.of_trace (hsame.trans htrace)

theorem Performed.refl (s : State) : Performed s s [] :=
  SameDriver.performed (SameDriver.refl s)

theorem Performed.trans {s t u : State} {ms ns : List MicroAction} (h : Performed s t ms)
    (k : Performed t u ns) : Performed s u (ms ++ ns) := by
  obtain ⟨ht, hms⟩ := h
  obtain ⟨hu, hns⟩ := k
  have htrace : u.trace = s.trace ++ (eventsSince s t ++ eventsSince t u) := by
    rw [← List.append_assoc, ← ht, ← hu]
  have hsince : eventsSince s u = eventsSince s t ++ eventsSince t u := by
    rw [eventsSince, htrace, List.drop_left]
  exact ⟨by rw [hsince, htrace], by rw [hsince, List.map_append, hms, hns, List.map_append]⟩

theorem runActions_performed (ms : List MicroAction) (s : State) : Performed s (runActions ms s) ms :=
  (SameDriver.refl _).performed

/-- Settles O28: the script of a register write is those of its two frames. -/
theorem writeregIsTwoTransmissions : Obligations.WriteregIsTwoTransmissions := by
  intro a v s hbusy
  have hscript : scriptOf s.params (.writereg a v) = some (writeScript a v) := rfl
  obtain ⟨hgrows, hactions⟩ := (issued_driver hscript).performed
  refine ⟨_, exec_ready hbusy _, hgrows, ?_⟩
  rw [hactions, writeScript, List.map_append, addrFrame, dataFrame]

/-! ### One frame of a register write -/

/-- Before its last micro-step a transmission that any caller began is in flight at position `k`, with the
word in the latch and the table's first `k` actions performed. -/
theorem seqStep_iterate_beginSend (w : Word24) {s : State} (hc : NotInSetup s) {k : Nat} (hk : k < 79) :
    seqStep^[k] (beginSend w s) =
      { runActions ((transmitScript w).take k) s with w := w, upc := some ⟨k, hk⟩ } := by
  rw [seqStep_iterate w hc hk, microStep_iterate w s k hk.le, dif_pos hk, transmitScript_take w hk.le]

/-- In `t` the register write of `v` at `a` is about to begin the frame of phase `ph`, having performed
`ms` since `s`. -/
structure FrameDue (a v : Word16) (s t : State) (ph : Phase) (ms : List MicroAction) : Prop where
  busy : t.busy = true
  phase : t.phase = ph
  addr : t.a = a
  value : t.v = v
  notInSetup : NotInSetup t
  performed : Performed s t ms

/-- The positions within one frame: the phase and the latches stay, `upc` counts the actions performed. -/
theorem FrameDue.position {a v : Word16} {s t : State} {ph : Phase} {ms : List MicroAction}
    (h : FrameDue a v s t ph ms) (w : Word24) {k : Nat} (hk : k < 79) :
    let u := seqStep^[k] (beginSend w t)
    u.busy = true ∧ u.phase = ph ∧ u.upc = some ⟨k, hk⟩ ∧ u.a = a ∧ u.v = v ∧
      (eventsSince s u).map Event.action = (ms ++ (transmitScript w).take k).map some := by
  have hsame := runActions_same ((transmitScript w).take k) t
  obtain ⟨-, hactions⟩ := h.performed.trans (runActions_performed ((transmitScript w).take k) t)
  rw [seqStep_iterate_beginSend w h.notInSetup hk]
  exact ⟨hsame.busy.trans h.busy, hsame.phase.trans h.phase, rfl, hsame.a.trans h.addr,
    hsame.v.trans h.value, hactions⟩

/-! ### A register write from an idle state (R88) -/

/-- The state between the two frames of a register write: the first sent, the data phase entered. -/
def addrSent (a v : Word16) (s : State) : State := enterData (sendWord (addrFrame a) (latchWrite a v s))

theorem sendWord_addrSent (a v : Word16) (s : State) :
    sendWord (dataFrame v) (addrSent a v s) = writeSent a v s := rfl

/-- At the line driver the first frame's script has been run. -/
theorem addrSent_driver (a v : Word16) (s : State) :
    SameDriver (addrSent a v s) (runActions (transmitScript (addrFrame a)) s) :=
  (enterData_driver _).trans
    ((sendWord_driver (addrFrame a) _).trans (runActions_congr (latchWrite_driver a v s) _))

theorem start_writereg (a v : Word16) (s : State) :
    start (.writereg a v) s = beginSend (addrFrame a) (latchWrite a v s.raiseBusy) := rfl

section
variable {s : State} (hs : SeqIdle s) (a v : Word16)
include hs

theorem SeqIdle.frameDue_addr : FrameDue a v s (latchWrite a v s.raiseBusy) .addr [] where
  busy := rfl
  phase := rfl
  addr := rfl
  value := rfl
  notInSetup := hs.notInSetup_raiseBusy
  performed := Performed.refl s

theorem SeqIdle.frameDue_data :
    FrameDue a v s (addrSent a v s.raiseBusy) .data (transmitScript (addrFrame a)) := by
  have hdue := hs.frameDue_addr a v
  obtain ⟨hkeep, -, haddr, hvalue, -, -, -⟩ := sendWord_rest (addrFrame a) (latchWrite a v s.raiseBusy)
  exact {
    busy := by rw [addrSent, enterData_busy, hkeep.busy, hdue.busy]
    phase := rfl
    addr := by rw [addrSent, enterData_a, haddr, hdue.addr]
    value := by rw [addrSent, enterData_v, hvalue, hdue.value]
    notInSetup := fun j => by
      rw [addrSent, enterData_client, hkeep.client]
      exact hdue.notInSetup j
    performed := (addrSent_driver a v s.raiseBusy).performed }

/-- After 79 micro-steps the first transmission has returned to the framer, which has begun the second. -/
theorem SeqIdle.seqStep_iterate_writereg_data :
    seqStep^[79] (start (.writereg a v) s) = beginSend (dataFrame v) (addrSent a v s.raiseBusy) := by
  obtain ⟨-, -, -, hvalue, hphase, -, -⟩ := sendWord_rest (addrFrame a) (latchWrite a v s.raiseBusy)
  rw [start_writereg, seqStep_transmission _ (hs.frameDue_addr a v).notInSetup, afterSend, hphase,
    latchWrite_phase]
  simp only [enterData_v, hvalue, latchWrite_v, addrSent]

/-- After 158 micro-steps the second transmission has returned to the framer and the register write to the
host, since no bring-up issued it: this is what the whole operation leaves. -/
theorem SeqIdle.seqStep_iterate_writereg_end :
    seqStep^[158] (start (.writereg a v) s) = issued (.writereg a v) s := by
  have ⟨_, _, _, hclient, _⟩ := hs
  have hdue := hs.frameDue_data a v
  obtain ⟨-, -, -, -, hphase, -, -⟩ := sendWord_rest (dataFrame v) (addrSent a v s.raiseBusy)
  obtain ⟨hkeep, -⟩ := writeReg_rest a v s.raiseBusy
  have hdata : (writeSent a v s.raiseBusy).phase = .data := hphase.trans hdue.phase
  have hidle : (writeReg a v s.raiseBusy).client = .idle := hkeep.client.trans hclient
  calc
    seqStep^[158] (start (.writereg a v) s) = seqStep^[79] (seqStep^[79] (start (.writereg a v) s)) :=
      Function.iterate_add_apply seqStep 79 79 _
    _ = afterSend (writeSent a v s.raiseBusy) := by
      rw [hs.seqStep_iterate_writereg_data a v, seqStep_transmission _ hdue.notInSetup, sendWord_addrSent]
    _ = afterWrite (writeReg a v s.raiseBusy) := by rw [writeReg_eq_finish]; simp only [afterSend, hdata]
    _ = returnToHost (writeReg a v s.raiseBusy) := by simp only [afterWrite, hidle]

end

/-- Settles O33: each frame's positions by the state in which it began, the return by the state the whole
operation leaves. -/
theorem writeregPositions : Obligations.WriteregPositions := by
  intro a v s hs
  have ⟨hbusy, _⟩ := hs
  obtain ⟨haddr, -⟩ := framesAreConcatenations a
  obtain ⟨-, -, hdata, -⟩ := framesAreConcatenations v
  rw [← haddr, ← hdata]
  refine ⟨fun k hk => ?_, fun k hk => ?_, ?_⟩
  · exact (hs.frameDue_addr a v).position (addrFrame a) hk
  · rw [Nat.add_comm 79 k, Function.iterate_add_apply, hs.seqStep_iterate_writereg_data a v]
    exact (hs.frameDue_data a v).position (dataFrame v) hk
  · rw [hs.seqStep_iterate_writereg_end a v]
    exact exec_ready hbusy (.writereg a v)

end Sys2Proof.Machine

/-! PROOFS. The client of spec/43_panel_client.md: INITPANEL is its table of register writes (R95),
SETDISPLAY is line set-up where due and then INITPANEL (R97, R98), a set-up that fails entirely stops
nothing (R100), and the caller's index steps (R101). -/

namespace Sys2Proof

/-- One value per line is determined by the three. -/
theorem PerLine.eq_of_get {α : Type} {x y : PerLine α} (h : ∀ l, x.get l = y.get l) : x = y := by
  obtain ⟨cs, clk, data⟩ := x
  obtain ⟨cs', clk', data'⟩ := y
  exact (PerLine.mk.injEq ..).mpr ⟨h .cs, h .clk, h .data⟩

namespace Machine

/-! ### The caller's indices (R101) -/

theorem indexUp_le (x : Nat) : indexUp x ≤ 7 := Nat.min_le_right _ _

theorem indexDown_le {x : Nat} (h : x ≤ 7) : indexDown x ≤ 7 := by
  rw [indexDown]; omega

theorem indexUp_iterate (n : Nat) {x : Nat} (h : x ≤ 7) : indexUp^[n] x = min (x + n) 7 := by
  induction n with
  | zero => exact (Nat.min_eq_left h).symm
  | succ n ih => rw [Function.iterate_succ_apply', ih, indexUp]; omega

theorem indexDown_iterate (n x : Nat) : indexDown^[n] x = x - n := by
  induction n with
  | zero => rfl
  | succ n ih => rw [Function.iterate_succ_apply', ih, indexDown]; omega

/-- Settles O42: each step keeps the bound, whichever way it goes; the bytes are the tables' entries. -/
theorem indexStepsSaturate : Obligations.IndexStepsSaturate := by
  refine ⟨fun ops => ?_, fun n x h => ⟨indexUp_iterate n h, indexDown_iterate n x⟩, fun q xb xc => rfl⟩
  induction ops with
  | nil => exact fun x h => h
  | cons up ops ih =>
    intro x h
    refine ih _ ?_
    cases up with
    | true => exact indexUp_le x
    | false => exact indexDown_le h

/-! ### The packed word (R48) -/

/-- Brightness shifted over contrast is the concatenation of the two bytes. -/
theorem packDisplay_eq_append (bright contrast : Byte) :
    packDisplay bright contrast = bright ++ contrast := by
  rw [packDisplay]
  ext i hi
  have happend : (bright ++ contrast : Word16)[i] = if h : i < 8 then contrast[i] else bright[i - 8] :=
    BitVec.getElem_append (x := bright) (y := contrast) hi
  simp only [happend, BitVec.getElem_or, BitVec.getElem_shiftLeft, BitVec.getElem_setWidth]
  split
  · next h => simp [h]
  · next h =>
    have hbright : bright.getLsbD (i - 8) = bright[i - 8] := BitVec.getLsbD_eq_getElem (by omega)
    simp [h, BitVec.getLsbD_of_ge contrast i (by omega), hbright]

/-! ### Programs, one operation at a time -/

theorem execAll_cons_of_next {i : Instr} {s t : State} (h : exec i s = .next t) (is : List Instr) :
    execAll (i :: is) s = execAll is t := by
  simp only [execAll, h]

theorem execAll_singleton {s : State} (h : s.busy = false) (i : Instr) :
    execAll [i] s = .next (issued i s) :=
  execAll_cons_of_next (exec_ready h i) []

/-! ### INITPANEL (R95) -/

theorem entriesScript_cons (e : PanelEntry) (es : List PanelEntry) (p : Word16) :
    entriesScript (e :: es) p = writeScript e.reg (entryValue e.value p) ++ entriesScript es p := rfl

theorem entriesTarget_cons (e : PanelEntry) (es : List PanelEntry) (p : Word16) (m : Memory) :
    entriesTarget (e :: es) p m = entriesTarget es p (m.write e.reg.toNat (entryValue e.value p)) := rfl

theorem issued_writereg_driver (a v : Word16) (s : State) :
    SameDriver (issued (.writereg a v) s) (runActions (writeScript a v) s) :=
  issued_driver rfl

/-- The ghost map after a register write has returned. -/
theorem issued_writereg_target (a v : Word16) (s : State) :
    (issued (.writereg a v) s).target = s.target.write a.toNat v := by
  obtain ⟨-, -, -, htarget, -⟩ := writeReg_rest a v s.raiseBusy
  rw [issued, returnToHost_target, bodyOf, htarget, State.raiseBusy_target]

/-- The register writes of some entries of the table. -/
def entryWrites (es : List PanelEntry) (p : Word16) : List Instr :=
  es.map fun e => .writereg e.reg (entryValue e.value p)

theorem tableWrites_eq (q : Params) (p : Word16) : tableWrites q p = entryWrites q.panelTable p := rfl

/-- Issued one after another, the register writes of some entries do at the line driver and to the ghost
map what a bring-up does for these entries. -/
theorem execAll_entryWrites (es : List PanelEntry) (p : Word16) {s : State} (h : s.busy = false) :
    ∃ u, execAll (entryWrites es p) s = .next u ∧ SameDriver u (runActions (entriesScript es p) s) ∧
      u.target = entriesTarget es p s.target := by
  induction es generalizing s with
  | nil => exact ⟨s, rfl, SameDriver.refl s, rfl⟩
  | cons e es ih =>
    have hdriver := issued_writereg_driver e.reg (entryValue e.value p) s
    have hwritten := issued_writereg_target e.reg (entryValue e.value p) s
    obtain ⟨u, hu, hrest, htarget⟩ := ih (s := issued (.writereg e.reg (entryValue e.value p)) s) rfl
    refine ⟨u, ?_, ?_, ?_⟩
    · exact (execAll_cons_of_next (exec_ready h _) _).trans hu
    · rw [entriesScript_cons, runActions_append]
      exact hrest.trans (runActions_congr hdriver _)
    · rw [htarget, hwritten, entriesTarget_cons]

/-- A bring-up that began with the serializer and the framer idle returns to an idle block. -/
theorem bringUp_returns_idle (p : Word16) {s : State} (hupc : s.upc = none) (hphase : s.phase = .none) :
    SeqIdle (returnToHost (bringUp p s)) := by
  obtain ⟨-, hu, hp, htix, hclient, -⟩ := bringUp_spec p s
  exact ⟨rfl, hu hupc, hp hphase, hclient, htix⟩

/-- What INITPANEL leaves in the ghost map, in INIT_DONE, in the parameters and in the requests. -/
theorem issued_initpanel_rest (p : Word16) (s : State) :
    (issued (.initpanel p) s).target = entriesTarget s.params.panelTable p s.target ∧
    (issued (.initpanel p) s).initDone = s.initDone ∧ (issued (.initpanel p) s).params = s.params ∧
    (issued (.initpanel p) s).port = s.port := by
  obtain ⟨-, -, -, -, -, hinit, -, hparams, hport, htarget⟩ := bringUp_spec p s.raiseBusy
  exact ⟨htarget, hinit, hparams, hport⟩

theorem issued_initpanel_driver (p : Word16) (s : State) :
    SameDriver (issued (.initpanel p) s) (runActions (tableScript s.params p) s) :=
  issued_driver rfl

/-- Settles O35: the bring-up and the register writes run one script and record one list of writes. -/
theorem initpanelIssuesTheTable : Obligations.InitpanelIssuesTheTable := by
  intro p s hs
  have ⟨hbusy, hupc, hphase, _, _⟩ := hs
  obtain ⟨u, hu, hdriver, htarget⟩ := execAll_entryWrites s.params.panelTable p hbusy
  obtain ⟨htarget', hrest⟩ := issued_initpanel_rest p s
  rw [tableWrites_eq]
  exact ⟨_, u, exec_ready hbusy _, hu, (issued_initpanel_driver p s).trans hdriver.symm,
    htarget'.trans htarget.symm, bringUp_returns_idle p hupc hphase, hrest⟩

/-! ### Line set-up (R98) -/

/-- The two attempts of line set-up on one line: EXPORT, then direction `out`. -/
def setupLine (l : Line) (s : State) : State := lineSetDir l .output (lineExport l s)

/-- Line set-up over some lines, in order. -/
def setupLines (ls : List Line) (s : State) : State := ls.foldl (fun s l => setupLine l s) s

theorem lineSetup_eq (s : State) : lineSetup s = setupLines setupOrder s := rfl

theorem setupLine_busy (l : Line) (s : State) : (setupLine l s).busy = s.busy := by
  rw [setupLine, lineSetDir_eq, lineExport_eq]

/-- The operations that set up some lines, in order. -/
def setupOpsOf (ls : List Line) : List Instr := ls.flatMap fun l => [.exportLine l, .setdirOut l]

theorem setupOps_eq : setupOps = setupOpsOf setupOrder := rfl

/-- Issued one after another before others, the line-driver operations are line set-up. -/
theorem execAll_setupOpsOf (ls : List Line) (is : List Instr) {s : State} (h : s.busy = false) :
    execAll (setupOpsOf ls ++ is) s = execAll is (setupLines ls s) := by
  induction ls generalizing s with
  | nil => rfl
  | cons l ls ih =>
    have hexported : (lineExport l s).busy = false := by rw [lineExport_eq]; exact h
    calc
      execAll (setupOpsOf (l :: ls) ++ is) s = execAll (setupOpsOf ls ++ is) (setupLine l s) :=
        (execAll_cons_of_next (exec_exportLine h l) _).trans
          (execAll_cons_of_next (exec_setdirOut hexported l) _)
      _ = execAll is (setupLines (l :: ls) s) := ih ((setupLine_busy l s).trans h)

theorem execAll_setup_initpanel (p : Word16) {s : State} (h : s.busy = false) :
    execAll (setupOps ++ [.initpanel p]) s = .next (issued (.initpanel p) (lineSetup s)) := by
  obtain ⟨hkeep, -⟩ := lineSetup_rest s
  rw [setupOps_eq, execAll_setupOpsOf _ _ h, ← lineSetup_eq, execAll_singleton (hkeep.busy.trans h)]

/-! ### SETDISPLAY (R97) -/

theorem setupDue_iff (s : State) :
    setupDue s = true ↔ s.params.initPolicy = .everyCall ∨ s.initDone = false := by
  simp [setupDue]

theorem displayReady_of_due {s : State} (h : setupDue s = true) :
    displayReady s = markInit (lineSetup s) := if_pos h

theorem displayReady_of_not_due {s : State} (h : setupDue s = false) : displayReady s = s :=
  if_neg (by simp [h])

/-- What SETDISPLAY leaves in the ghost map, in INIT_DONE, in the parameters and in the requests. -/
theorem issued_setdisplay_rest (b c : Byte) (s : State) :
    (issued (.setdisplay b c) s).target =
      entriesTarget s.params.panelTable (packDisplay b c) s.target ∧
    (issued (.setdisplay b c) s).initDone = (setupDue s || s.initDone) ∧
    (issued (.setdisplay b c) s).params = s.params ∧ (issued (.setdisplay b c) s).port = s.port := by
  obtain ⟨-, -, -, -, rparams, rport, rtarget, rinit, -⟩ := displayReady_rest s.raiseBusy
  obtain ⟨-, -, -, -, -, hinit, -, hparams, hport, htarget⟩ :=
    bringUp_spec (packDisplay b c) (displayReady s.raiseBusy)
  rw [rparams, rtarget] at htarget
  exact ⟨htarget, hinit.trans rinit, hparams.trans rparams, hport.trans rport⟩

theorem SeqIdle.issued_setdisplay {s : State} (hs : SeqIdle s) (b c : Byte) :
    SeqIdle (issued (.setdisplay b c) s) := by
  obtain ⟨-, hupc, hphase, -, -⟩ := hs
  obtain ⟨-, -, -, -, -, -, -, -, rupc, rphase⟩ := displayReady_rest s.raiseBusy
  exact bringUp_returns_idle _ (rupc.trans hupc) (rphase.trans hphase)

/-- From a state that agrees with the one in which the bring-up begins, INITPANEL of the packed word
leaves what SETDISPLAY leaves, at the line driver and in the ghost map. -/
theorem issued_setdisplay_agrees (b c : Byte) {s v : State} (hdriver : SameDriver (displayReady s) v)
    (hparams : v.params = s.params) (htarget : v.target = s.target) :
    SameDriver (issued (.setdisplay b c) s) (issued (.initpanel (packDisplay b c)) v) ∧
    (issued (.setdisplay b c) s).target = (issued (.initpanel (packDisplay b c)) v).target := by
  have hpanel := issued_initpanel_driver (packDisplay b c) v
  obtain ⟨hdisplay, -⟩ := issued_setdisplay_rest b c s
  obtain ⟨hwrites, -⟩ := issued_initpanel_rest (packDisplay b c) v
  rw [hparams] at hpanel
  rw [hparams, htarget] at hwrites
  exact ⟨((issued_setdisplay b c s).trans (runActions_congr hdriver _)).trans hpanel.symm,
    hdisplay.trans hwrites.symm⟩

/-- Settles O36: with set-up due the bring-up begins where the six line-driver operations end, up to
`INIT_DONE`; otherwise it begins at once. -/
theorem setdisplayExpands : Obligations.SetdisplayExpands := by
  intro b c s hs due
  have ⟨hbusy, _⟩ := hs
  obtain ⟨-, hinit, hparams, hport⟩ := issued_setdisplay_rest b c s
  have hdue : setupDue s = true ↔ due := setupDue_iff s
  rw [← packDisplay_eq_append]
  cases h : setupDue s with
  | true =>
    obtain ⟨hkeep, -, -, htarget⟩ := lineSetup_rest s
    have hstart : SameDriver (displayReady s) (lineSetup s) := by
      rw [displayReady_of_due h]; exact markInit_driver _
    obtain ⟨hsame, hmap⟩ := issued_setdisplay_agrees b c hstart hkeep.params htarget
    exact ⟨_, _, exec_ready hbusy _,
      fun _ => ⟨execAll_setup_initpanel _ hbusy, by rw [hinit, h]; rfl⟩,
      fun hnot => absurd (hdue.mp h) hnot, hsame, hmap, hs.issued_setdisplay b c, hparams, hport⟩
  | false =>
    have hstart : SameDriver (displayReady s) s := by
      rw [displayReady_of_not_due h]; exact SameDriver.refl s
    obtain ⟨hsame, hmap⟩ := issued_setdisplay_agrees b c hstart rfl rfl
    exact ⟨_, _, exec_ready hbusy _,
      fun hyes => absurd (hdue.mpr hyes) (by rw [h]; exact Bool.false_ne_true),
      fun _ => ⟨execAll_singleton hbusy _, by rw [hinit, h]; rfl⟩,
      hsame, hmap, hs.issued_setdisplay b c, hparams, hport⟩

/-! ### A bring-up's actions and attempts, counted (R75, R99) -/

theorem attemptsIn_append (ms ns : List MicroAction) :
    attemptsIn (ms ++ ns) = attemptsIn ms + attemptsIn ns := List.countP_append

theorem attemptsIn_transmitScript (w : Word24) : attemptsIn (transmitScript w) = 78 := rfl

theorem writeScript_length (a v : Word16) : (writeScript a v).length = 158 := by
  rw [writeScript, List.length_append, transmitScript_length, transmitScript_length]

theorem attemptsIn_writeScript (a v : Word16) : attemptsIn (writeScript a v) = 156 := by
  rw [writeScript, attemptsIn_append, attemptsIn_transmitScript, attemptsIn_transmitScript]

theorem entriesScript_length (es : List PanelEntry) (p : Word16) :
    (entriesScript es p).length = 158 * es.length := by
  induction es with
  | nil => rfl
  | cons e es ih =>
    rw [entriesScript_cons, List.length_append, writeScript_length, ih, List.length_cons]; omega

theorem attemptsIn_entriesScript (es : List PanelEntry) (p : Word16) :
    attemptsIn (entriesScript es p) = 156 * es.length := by
  induction es with
  | nil => rfl
  | cons e es ih =>
    rw [entriesScript_cons, attemptsIn_append, attemptsIn_writeScript, ih, List.length_cons]; omega

/-! ### With no line owned (R12, R100) -/

/-- While no line is owned every attempt of a list of actions fails. -/
theorem actionEvents_failures_length {s : State} (h : NoneOwned s) (k : Nat) (ms : List MicroAction) :
    ((actionEvents s k ms).filterMap Event.failure).length = attemptsIn ms := by
  induction ms generalizing k with
  | nil => rfl
  | cons m ms ih =>
    cases m with
    | write l b => simp [actionEvents, State.effective_of_noneOwned h, Event.failure, ih]
    | delay => rw [actionEvents, List.filterMap_cons_none rfl, ih, attemptsIn_delay]

/-- The events of a line set-up in which every EXPORT fails. -/
def failedSetupEvents (ls : List Line) : List Event :=
  ls.flatMap fun l => [.evExport l false, .evDir l .output false]

/-- On one line, a failed EXPORT leaves the line not owned, so that the direction set fails too. -/
theorem setupLine_of_failed {l : Line} {s : State} (hnone : NoneOwned s) (hok : s.okAt 0 = false) :
    (setupLine l s).owned = s.owned ∧
    (setupLine l s).trace = s.trace ++ failedSetupEvents [l] ∧
    ∀ k, (setupLine l s).okAt k = s.okAt (k + 2) := by
  have heq : setupLine l s = lineSetDir l .output (lineExport l s) := rfl
  simp only [lineExport_eq, lineSetDir_eq, hok, hnone l, Bool.false_and, Bool.false_eq_true, if_false] at heq
  refine ⟨by rw [heq], by rw [heq]; simp [failedSetupEvents], fun k => ?_⟩
  have htaken : (setupLine l s).okAt k = s.popOk.popOk.okAt k :=
    State.okAt_congr (by rw [heq]; rfl) (by rw [heq]; rfl) k
  rw [htaken, State.okAt_popOk, State.okAt_popOk]

/-- When every EXPORT fails, line set-up takes no line and each of its attempts fails. -/
theorem setupLines_of_failed (ls : List Line) {s : State} (hnone : NoneOwned s)
    (hok : ∀ i, i < ls.length → s.okAt (2 * i) = false) :
    (setupLines ls s).owned = s.owned ∧
    (setupLines ls s).trace = s.trace ++ failedSetupEvents ls := by
  induction ls generalizing s with
  | nil => exact ⟨rfl, (List.append_nil _).symm⟩
  | cons l ls ih =>
    obtain ⟨howned, htrace, hanswers⟩ :=
      setupLine_of_failed (l := l) hnone (hok 0 (Nat.succ_pos _))
    have hnone' : NoneOwned (setupLine l s) := fun l' => by rw [howned]; exact hnone l'
    have hok' : ∀ i, i < ls.length → (setupLine l s).okAt (2 * i) = false := fun i hi => by
      rw [hanswers]; exact hok (i + 1) (Nat.succ_lt_succ hi)
    obtain ⟨iowned, itrace⟩ := ih hnone' hok'
    refine ⟨iowned.trans howned, itrace.trans ?_⟩
    rw [htrace, List.append_assoc]; rfl

section
variable {s : State} (hnone : NoneOwned s) (hdue : setupDue s = true)
  (hfail : s.okAt 0 = false ∧ s.okAt 2 = false ∧ s.okAt 4 = false)
include hnone hdue hfail

/-- When its three EXPORTs fail, the line set-up of a SETDISPLAY leaves its six events and no line
owned. -/
theorem displayReady_of_failed :
    NoneOwned (displayReady s) ∧
    (displayReady s).trace = s.trace ++ failedSetupEvents setupOrder := by
  obtain ⟨hcs, hclk, hdata⟩ := hfail
  have hok : ∀ i, i < setupOrder.length → s.okAt (2 * i) = false
    | 0, _ => hcs
    | 1, _ => hclk
    | 2, _ => hdata
  obtain ⟨howned, htrace⟩ := setupLines_of_failed setupOrder hnone hok
  rw [displayReady_of_due hdue]
  exact ⟨fun l => by rw [markInit_owned, lineSetup_eq, howned]; exact hnone l, htrace⟩

/-- The whole SETDISPLAY then owns no line either, and its bring-up has run in full. -/
theorem issued_setdisplay_of_failed (b c : Byte) :
    NoneOwned (issued (.setdisplay b c) s) ∧
    (issued (.setdisplay b c) s).trace = s.trace ++ (failedSetupEvents setupOrder ++
      actionEvents (displayReady s) 0 (tableScript s.params (packDisplay b c))) := by
  obtain ⟨hready, hsetup⟩ := displayReady_of_failed hnone hdue hfail
  obtain ⟨-, howned, -, htrace, -⟩ := issued_setdisplay b c s
  have hkeep := runActions_same (tableScript s.params (packDisplay b c)) (displayReady s)
  obtain ⟨hrun, -⟩ := runActions_logs (Continues.refl (displayReady s))
    (tableScript s.params (packDisplay b c))
  exact ⟨fun l => by rw [howned, hkeep.owned]; exact hready l,
    by rw [htrace, hrun, hsetup, List.append_assoc]⟩

end

/-- No event of a growth that ends with no line owned has changed a level. -/
theorem GrowsBy.level_eq_of_noneOwned {s t : State} {es : List Event} (h : GrowsBy s t es)
    (hnone : NoneOwned t) : t.level = s.level := by
  refine PerLine.eq_of_get fun l => ?_
  by_contra hne
  obtain ⟨e, he, hmoves⟩ := h.level l hne
  exact h.dropped l (hnone l) e he hmoves

theorem GrowsBy.write_dropped_of_noneOwned {s t : State} {es : List Event} (h : GrowsBy s t es)
    (hnone : NoneOwned t) {l : Line} {b : Level} {eff : Bool} (he : .evWrite l b eff ∈ es) :
    eff = false := by
  simpa [Event.moves] using h.dropped l (hnone l) _ he

theorem GrowsBy.diagsSince_eq {s t : State} {es : List Event} (h : GrowsBy s t es) :
    diagsSince s t = es.filterMap Event.failure := by
  simp [diagsSince, h.diag]

/-- Settles O40: the failed set-up leaves no line owned, so growth drops every write; the script of the
bring-up runs all the same, and each of its attempts fails. -/
theorem failedSetupStillRuns : Obligations.FailedSetupStillRuns := by
  intro b c s hbusy hnone hdue hfail
  obtain ⟨hready, -⟩ := displayReady_of_failed hnone hdue hfail
  obtain ⟨hfree, htrace⟩ := issued_setdisplay_of_failed hnone hdue hfail b c
  obtain ⟨-, hinit, -⟩ := issued_setdisplay_rest b c s
  obtain ⟨es, hg⟩ := issued_grows (.setdisplay b c) s
  have hes := List.append_cancel_left (hg.trace.symm.trans htrace)
  refine ⟨_, exec_ready hbusy _, rfl, by rw [hinit, hdue]; rfl, hg.level_eq_of_noneOwned hfree, hfree,
    ?_, ?_, ?_⟩
  · rw [hg.eventsSince_eq, hes, List.length_append, actionEvents_length, tableScript,
      entriesScript_length]
    rfl
  · rw [hg.eventsSince_eq]
    exact fun l b eff he => hg.write_dropped_of_noneOwned hfree he
  · rw [hg.diagsSince_eq, hes, List.filterMap_append, List.length_append,
      actionEvents_failures_length hready, tableScript, attemptsIn_entriesScript]
    rfl

end Machine

end Sys2Proof

/-! PROOFS. The codec of spec/30_encoding.md: decoding and encoding are inverse to each other (R46, R50,
R52), the words the spec writes out, the packed display word (R48), and the texts of the line driver. -/

namespace Sys2Proof

/-! ### Command words, field by field (R50) -/

theorem decodeCommand_transmit (w : Word24) : decodeCommand (0#2 ++ 0#8 ++ w) = .ok (.transmit w) := by
  have hop : cmdOpcode (0#2 ++ 0#8 ++ w) = 0#2 := by
    rw [cmdOpcode, BitVec.extractLsb'_append_eq_of_le (by decide), BitVec.extractLsb'_append_eq_left]
  have hzero : (0#2 ++ 0#8 ++ w).extractLsb' 24 8 = 0#8 := by
    rw [BitVec.extractLsb'_append_eq_of_le (by decide)]; rfl
  have hword : (0#2 ++ 0#8 ++ w).extractLsb' 0 24 = w := by
    rw [BitVec.extractLsb'_append_eq_of_add_le (by decide), BitVec.extractLsb'_eq_self]
  rw [decodeCommand_of_opcode0 hop, if_pos hzero, hword]

theorem decodeCommand_writereg (a v : Word16) : decodeCommand (1#2 ++ a ++ v) = .ok (.writereg a v) := by
  have hop : cmdOpcode (1#2 ++ a ++ v) = 1#2 := by
    rw [cmdOpcode, BitVec.extractLsb'_append_eq_of_le (by decide), BitVec.extractLsb'_append_eq_left]
  have haddr : (1#2 ++ a ++ v).extractLsb' 16 16 = a := by
    rw [BitVec.extractLsb'_append_eq_of_le (by decide), BitVec.extractLsb'_append_eq_of_add_le (by decide),
      BitVec.extractLsb'_eq_self]
  have hvalue : (1#2 ++ a ++ v).extractLsb' 0 16 = v := by
    rw [BitVec.extractLsb'_append_eq_of_add_le (by decide), BitVec.extractLsb'_eq_self]
  rw [decodeCommand_of_opcode1 hop, haddr, hvalue]

theorem decodeCommand_initpanel (p : Word16) : decodeCommand (2#2 ++ 0#16 ++ p) = .ok (.initpanel p) := by
  have hop : cmdOpcode (2#2 ++ 0#16 ++ p) = 2#2 := by
    rw [cmdOpcode, BitVec.extractLsb'_append_eq_of_le (by decide), BitVec.extractLsb'_append_eq_left]
  have hzero : (2#2 ++ 0#16 ++ p).extractLsb' 16 16 = 0#16 := by
    rw [BitVec.extractLsb'_append_eq_of_le (by decide)]; rfl
  have hword : (2#2 ++ 0#16 ++ p).extractLsb' 0 16 = p := by
    rw [BitVec.extractLsb'_append_eq_of_add_le (by decide), BitVec.extractLsb'_eq_self]
  rw [decodeCommand_of_opcode2 hop, if_pos hzero, hword]

theorem decodeCommand_setdisplay (b c : Byte) :
    decodeCommand (3#2 ++ 0#16 ++ b ++ c) = .ok (.setdisplay b c) := by
  have hop : cmdOpcode (3#2 ++ 0#16 ++ b ++ c) = 3#2 := by
    rw [cmdOpcode, BitVec.extractLsb'_append_eq_of_le (by decide),
      BitVec.extractLsb'_append_eq_of_le (by decide), BitVec.extractLsb'_append_eq_left]
  have hzero : (3#2 ++ 0#16 ++ b ++ c).extractLsb' 16 16 = 0#16 := by
    rw [BitVec.extractLsb'_append_eq_of_le (by decide), BitVec.extractLsb'_append_eq_of_le (by decide)]; rfl
  have hbright : (3#2 ++ 0#16 ++ b ++ c).extractLsb' 8 8 = b := by
    rw [BitVec.extractLsb'_append_eq_of_le (by decide), BitVec.extractLsb'_append_eq_of_add_le (by decide),
      BitVec.extractLsb'_eq_self]
  have hcontrast : (3#2 ++ 0#16 ++ b ++ c).extractLsb' 0 8 = c := by
    rw [BitVec.extractLsb'_append_eq_of_add_le (by decide), BitVec.extractLsb'_eq_self]
  rw [decodeCommand_of_opcode3 hop, if_pos hzero, hbright, hcontrast]

/-- A command word is its opcode, eight bits and the 24-bit operand. -/
theorem cmd_eq_op_8_24 (c : Cmd34) : cmdOpcode c ++ c.extractLsb' 24 8 ++ c.extractLsb' 0 24 = c := by
  rw [cmdOpcode, BitVec.extractLsb'_append_extractLsb'_eq_extractLsb' (show 32 = 24 + 8 from rfl)]
  exact BitVec.extractLsb'_append_extractLsb' (w := 10) (len := 24)

/-- A command word is its opcode and two 16-bit fields. -/
theorem cmd_eq_op_16_16 (c : Cmd34) : cmdOpcode c ++ c.extractLsb' 16 16 ++ c.extractLsb' 0 16 = c := by
  rw [cmdOpcode, BitVec.extractLsb'_append_extractLsb'_eq_extractLsb' (show 32 = 16 + 16 from rfl)]
  exact BitVec.extractLsb'_append_extractLsb' (w := 18) (len := 16)

/-- A command word is its opcode, a 16-bit field and two bytes. -/
theorem cmd_eq_op_16_8_8 (c : Cmd34) :
    cmdOpcode c ++ c.extractLsb' 16 16 ++ c.extractLsb' 8 8 ++ c.extractLsb' 0 8 = c := by
  rw [cmdOpcode, BitVec.extractLsb'_append_extractLsb'_eq_extractLsb' (show 32 = 16 + 16 from rfl),
    BitVec.extractLsb'_append_extractLsb'_eq_extractLsb' (show 16 = 8 + 8 from rfl)]
  exact BitVec.extractLsb'_append_extractLsb' (w := 26) (len := 8)

/-- A command word that decodes is the one encoding of its operation, which is well formed. -/
theorem encode_of_decodeCommand {c : Cmd34} {i : Instr} (pins : PerLine Nat) (h : decodeCommand c = .ok i) :
    i.wf = true ∧ encode pins i = .command c := by
  obtain h0 | h1 | h2 | h3 := cmdOpcode_cases c
  · rw [decodeCommand_of_opcode0 h0] at h
    split at h
    · next hzero =>
      have hc := cmd_eq_op_8_24 c
      rw [h0, hzero] at hc
      obtain rfl := Except.ok.inj h
      exact ⟨rfl, congrArg PortItem.command hc⟩
    · cases h
  · rw [decodeCommand_of_opcode1 h1] at h
    have hc := cmd_eq_op_16_16 c
    rw [h1] at hc
    obtain rfl := Except.ok.inj h
    exact ⟨rfl, congrArg PortItem.command hc⟩
  · rw [decodeCommand_of_opcode2 h2] at h
    split at h
    · next hzero =>
      have hc := cmd_eq_op_16_16 c
      rw [h2, hzero] at hc
      obtain rfl := Except.ok.inj h
      exact ⟨rfl, congrArg PortItem.command hc⟩
    · cases h
  · rw [decodeCommand_of_opcode3 h3] at h
    split at h
    · next hzero =>
      have hc := cmd_eq_op_16_8_8 c
      rw [h3, hzero] at hc
      obtain rfl := Except.ok.inj h
      exact ⟨rfl, congrArg PortItem.command hc⟩
    · cases h

/-! ### Wire words, tag and operand (R46, R49) -/

theorem frameTag_append (t : Byte) (x : Word16) : frameTag (t ++ x) = t :=
  BitVec.extractLsb'_append_eq_left

theorem operand_append (t : Byte) (x : Word16) : (t ++ x : Word24).extractLsb' 0 16 = x := by
  rw [BitVec.extractLsb'_append_eq_of_add_le (by decide), BitVec.extractLsb'_eq_self]

theorem frameTag_append_operand (f : Word24) : frameTag f ++ f.extractLsb' 0 16 = f :=
  BitVec.extractLsb'_append_extractLsb' (w := 8) (len := 16)

theorem decodeFrame_addr (a : Word16) : decodeFrame (Config.tagAddr ++ a) = .frameAddr a := by
  rw [decodeFrame_of_tagAddr (frameTag_append _ a), operand_append]

theorem decodeFrame_data (v : Word16) : decodeFrame (Config.tagData ++ v) = .frameData v := by
  rw [decodeFrame_of_tagData (frameTag_append _ v), operand_append]

/-- A raw frame is well formed when its top byte is neither tag (R49). -/
theorem frameRaw_wf_iff (w : Word24) :
    (Instr.frameRaw w).wf = true ↔ frameTag w ≠ Config.tagAddr ∧ frameTag w ≠ Config.tagData := by
  simp [Instr.wf, frameTag_eq]

/-- A wire word is the one encoding of the operation it is classified as. -/
theorem encode_decodeFrame (pins : PerLine Nat) (f : Word24) :
    (decodeFrame f).wf = true ∧ encode pins (decodeFrame f) = .wire f := by
  by_cases haddr : frameTag f = Config.tagAddr
  · rw [decodeFrame_of_tagAddr haddr]
    exact ⟨rfl, by rw [encode, ← haddr, frameTag_append_operand]⟩
  · by_cases hdata : frameTag f = Config.tagData
    · rw [decodeFrame_of_tagData hdata]
      exact ⟨rfl, by rw [encode, ← hdata, frameTag_append_operand]⟩
    · rw [decodeFrame_of_other haddr hdata]
      exact ⟨(frameRaw_wf_iff f).2 ⟨haddr, hdata⟩, rfl⟩

/-! ### Line-driver requests (R52) -/

/-- Under distinct pins the pin of a line decodes to that line. -/
theorem decodePin_get {pins : PerLine Nat} (h : pinsDistinct pins = true) (l : Line) (mk : Line → Instr) :
    decodePin pins (pins.get l) mk = .ok (mk l) := by
  rw [decodePin, lineOfPin_get h]

/-- A line-driver request that decodes is the one encoding of its operation, which is well formed. -/
theorem encode_of_decodeDriver {pins : PerLine Nat} {path : DriverPath} {text : List Byte} {i : Instr}
    (h : decodeDriver pins path text = .ok i) : i.wf = true ∧ encode pins i = .driver path text := by
  cases path with
  | exportControl =>
    cases hread : readDecimal text with
    | none => simp [decodeDriver, hread] at h
    | some n =>
      simp only [decodeDriver, hread] at h
      obtain ⟨l, rfl, rfl⟩ := decodePin_ok h
      exact ⟨rfl, by rw [encode, decimal_of_readDecimal hread]⟩
  | direction n =>
    simp only [decodeDriver] at h
    split_ifs at h with hin hout
    · obtain ⟨l, rfl, rfl⟩ := decodePin_ok h
      exact ⟨rfl, by rw [encode, hin]⟩
    · obtain ⟨l, rfl, rfl⟩ := decodePin_ok h
      exact ⟨rfl, by rw [encode, hout]⟩
  | value n =>
    simp only [decodeDriver] at h
    split_ifs at h with hlow hhigh
    · obtain ⟨l, rfl, rfl⟩ := decodePin_ok h
      exact ⟨rfl, by rw [encode, hlow]⟩
    · obtain ⟨l, rfl, rfl⟩ := decodePin_ok h
      exact ⟨rfl, by rw [encode, hhigh]⟩

/-! ### The three spaces together -/

/-- Settles O2: a line-driver text by its pin, a command word by its fields, a wire word by its tag. -/
theorem decodeOfEncode : Obligations.DecodeOfEncode := by
  intro pins i hpins hwf
  have hpin := decodePin_get hpins
  have hout : textOut ≠ textIn := by decide
  have hhigh : textHigh ≠ textLow := by decide
  cases i with
  | exportLine l => simp only [encode, decode, decodeDriver, readDecimal_decimal, hpin]
  | setdirIn l => simp only [encode, decode, decodeDriver, if_true, hpin]
  | setdirOut l => simp only [encode, decode, decodeDriver, if_true, if_neg hout, hpin]
  | wrlevel0 l => simp only [encode, decode, decodeDriver, if_true, hpin]
  | wrlevel1 l => simp only [encode, decode, decodeDriver, if_true, if_neg hhigh, hpin]
  | transmit w => exact decodeCommand_transmit w
  | writereg a v => exact decodeCommand_writereg a v
  | initpanel p => exact decodeCommand_initpanel p
  | setdisplay b c => exact decodeCommand_setdisplay b c
  | frameAddr a => exact congrArg Except.ok (decodeFrame_addr a)
  | frameData v => exact congrArg Except.ok (decodeFrame_data v)
  | frameRaw w =>
    obtain ⟨haddr, hdata⟩ := (frameRaw_wf_iff w).1 hwf
    exact congrArg Except.ok (decodeFrame_of_other haddr hdata)

/-- Settles O3: by the space of the request. -/
theorem encodeOfDecode : Obligations.EncodeOfDecode := by
  intro pins item i h
  cases item with
  | command c => exact encode_of_decodeCommand pins h
  | driver path text => exact encode_of_decodeDriver h
  | wire f =>
    obtain rfl := Except.ok.inj h
    exact encode_decodeFrame pins f

/-- Settles O1: the command and wire words by their fields, the texts by evaluation. -/
theorem tabulatedWordsDecode : Obligations.TabulatedWordsDecode := fun _ =>
  ⟨decodeCommand_transmit 0x700001#24, decodeCommand_writereg 0x0001#16 0x1234#16,
    decodeCommand_initpanel 0x8040#16, decodeCommand_setdisplay 0x12#8 0x34#8,
    congrArg Except.ok (decodeFrame_addr 0xFFFF#16), congrArg Except.ok (decodeFrame_data 0x1234#16),
    congrArg Except.ok (decodeFrame_of_other (f := 0xF20000#24) (by decide) (by decide)),
    rfl, rfl, rfl⟩

/-- Settles O8: each text and path is written out in ASCII; the decimal text reads back (R52). -/
theorem driverTextsAsTabulated : Obligations.DriverTextsAsTabulated := fun _ _ =>
  ⟨rfl, rfl, rfl, rfl, rfl, readDecimal_decimal _, rfl, rfl, rfl⟩

end Sys2Proof

/-! PROOFS. The machine of spec/10_state.md and spec/60_exceptions.md: one step at a ready port, at a busy
port and at a port with no request (R38, R115, R128), what no step does (R11, R20, R21, R42), and the
invariant that every step keeps (R25, R76). -/

namespace Sys2Proof.Machine

/-! ### The next request -/

/-- Settles O43: a ready port takes the first request and runs what it decodes to. -/
theorem stepRunsDecodedOperation : Obligations.StepRunsDecodedOperation := by
  intro s item rest i hbusy hport hdec
  have hreq : nextRequest s = some (.ok i, s.withPort rest) := by simp only [nextRequest, hport, hdec]
  simp [step, hbusy, hreq]

/-- Settles O47: with no request the step is the waiting one. -/
theorem idleBlockWaits : Obligations.IdleBlockWaits := by
  intro s hbusy hport
  have hreq : nextRequest s = none := by simp only [nextRequest, hport]
  simp [step, hbusy, hreq]

/-- Settles O45: what an issued operation leaves has returned to the host. -/
theorem everyOperationReturns : Obligations.EveryOperationReturns := fun i s hbusy =>
  ⟨issued i s, exec_ready hbusy i, returnToHost_busy _⟩

theorem step_of_busy {s : State} (h : s.busy = true) : step s = .next (seqStep s) := if_pos h

/-- Settles O46: the issue is refused; a micro-step is growth, which leaves the requests alone. -/
theorem busyPortRefuses : Obligations.BusyPortRefuses := by
  intro i s hbusy
  obtain ⟨es, hg⟩ := seqStep_grows s
  exact ⟨by rw [exec_eq_issue, issue_busy hbusy], seqStep s, step_of_busy hbusy, hg.port⟩

/-! ### What no step does -/

/-- Settles O14: a step is growth, in which a level moves only by an event that moves it. -/
theorem levelsChangeInTwoWays : Obligations.LevelsChangeInTwoWays := by
  intro s t l h hne
  obtain ⟨rest, -, es, hg⟩ := step_grows h
  have hes : eventsSince s t = es := hg.eventsSince_eq
  obtain ⟨e, he, hmoves⟩ := hg.level l hne
  rw [hes]
  cases e with
  | evWrite l' b eff => obtain ⟨rfl, rfl⟩ := hmoves; exact .inl ⟨b, he⟩
  | evDir l' d ok => obtain ⟨rfl, rfl⟩ := hmoves; exact .inr ⟨d, he⟩
  | evExport l' ok => exact hmoves.elim
  | evDelay => exact hmoves.elim

/-- Settles O15: a step is growth, which only appends. -/
theorem logsOnlyGrow : Obligations.LogsOnlyGrow := by
  intro s t h
  obtain ⟨rest, -, es, hg⟩ := step_grows h
  obtain ⟨hs, hhistory, -⟩ := hg.history
  exact ⟨⟨es, hg.trace.symm⟩, ⟨_, hg.diag.symm⟩, ⟨hs, hhistory.symm⟩⟩

/-- Settles O52: a step is growth of the state whose first request may have been taken. -/
theorem parametersAreFixed : Obligations.ParametersAreFixed := by
  intro s t h
  obtain ⟨rest, hrest, es, hg⟩ := step_grows h
  exact ⟨hg.params, by rw [hg.port]; exact hrest⟩

/-! ### The micro-step of an operation in flight, by position (R16, R17) -/

theorem microStep_eq {s : State} {u : Fin 79} (h : s.upc = some u) :
    microStep s = (perform (microAction s.w u.val) s).atMicro (nextUpc u) := by
  simp only [microStep, h]

theorem nextUpc_of_lt {u : Fin 79} (h : u.val + 1 < 79) : nextUpc u = some ⟨u.val + 1, h⟩ := dif_pos h

theorem nextUpc_of_last {u : Fin 79} (h : u.val = 78) : nextUpc u = none := dif_neg (by omega)

/-- What a micro-step of a transmission keeps: everything but the lines and `upc`. -/
theorem microStep_rest (s : State) :
    SameClient s (microStep s) ∧ (microStep s).phase = s.phase ∧ (microStep s).target = s.target ∧
    (microStep s).w = s.w := by
  cases hupc : s.upc with
  | none =>
    rw [show microStep s = s by simp only [microStep, hupc]]
    exact ⟨⟨rfl, rfl, rfl, rfl, rfl, rfl, rfl⟩, rfl, rfl, rfl⟩
  | some u =>
    have h := perform_same (microAction s.w u.val) s
    rw [microStep_eq hupc]
    exact ⟨⟨h.p, h.tix, h.initDone, h.busy, h.client, h.params, h.port⟩, h.phase, h.target, h.w⟩

/-- The micro-step of a busy block: an attempt of line set-up, the return of a block with nothing in
flight, a micro-step after which the transmission goes on, or its last with the return to its caller. -/
theorem seqStep_cases (s : State) :
    (∃ k, s.client = .lineSetup k ∧ seqStep s = afterSetup k (setupAttempt k s)) ∨
    (NotInSetup s ∧ s.upc = none ∧ seqStep s = returnToHost s) ∨
    (NotInSetup s ∧ ∃ u h, s.upc = some u ∧ (microStep s).upc = some ⟨u.val + 1, h⟩ ∧
      seqStep s = microStep s) ∨
    (NotInSetup s ∧ ∃ u, s.upc = some u ∧ u.val = 78 ∧ seqStep s = afterSend (microStep s).scrubW) := by
  by_cases hset : ∃ k, s.client = .lineSetup k
  · obtain ⟨k, hk⟩ := hset
    exact .inl ⟨k, hk, by simp only [seqStep, hk]⟩
  have hc : NotInSetup s := fun k hk => hset ⟨k, hk⟩
  cases hupc : s.upc with
  | none =>
    refine .inr (.inl ⟨hc, rfl, ?_⟩)
    unfold seqStep
    split
    · next k hk => exact absurd hk (hc k)
    · simp only [hupc]
  | some u =>
    have hnext : (microStep s).upc = nextUpc u := by rw [microStep_eq hupc]; rfl
    by_cases hu : u.val + 1 < 79
    · rw [nextUpc_of_lt hu] at hnext
      exact .inr (.inr (.inl ⟨hc, u, hu, rfl, hnext, seqStep_within hc hupc hnext⟩))
    · have hlast : u.val = 78 := by omega
      rw [nextUpc_of_last hlast] at hnext
      exact .inr (.inr (.inr ⟨hc, u, rfl, hlast, seqStep_last hc hupc hnext⟩))

/-! ### The return of a transmission, a register write and an entry to their callers -/

theorem loadEntry_of_entry {s : State} {e : PanelEntry} (h : s.params.panelTable[s.tix]? = some e) :
    loadEntry s = beginWrite e.reg (entryValue e.value s.p) s := by
  simp only [loadEntry, h]

theorem loadEntry_of_end {s : State} (h : s.params.panelTable[s.tix]? = none) :
    loadEntry s = returnToHost (finishPanel s) := by
  simp only [loadEntry, h]

theorem afterWrite_of_panel {s : State} (h : s.client = .panel) :
    afterWrite s = loadEntry (advanceTix s) := by
  simp only [afterWrite, h]

theorem afterWrite_of_idle {s : State} (h : s.client = .idle) : afterWrite s = returnToHost s := by
  simp only [afterWrite, h]

theorem afterSend_of_none {s : State} (h : s.phase = .none) : afterSend s = returnToHost s := by
  simp only [afterSend, h]

theorem afterSend_of_addr {s : State} (h : s.phase = .addr) :
    afterSend s = beginSend (dataFrame s.v) (enterData s) := by
  simp only [afterSend, h]; rfl

theorem afterSend_of_data {s : State} (h : s.phase = .data) : afterSend s = afterWrite (finishWrite s) := by
  simp only [afterSend, h]

theorem loadEntry_driver (s : State) : SameDriver (loadEntry s) s := by
  cases h : s.params.panelTable[s.tix]? with
  | some e => rw [loadEntry_of_entry h]; exact SameDriver.refl s
  | none => rw [loadEntry_of_end h]; exact (returnToHost_driver _).trans (finishPanel_driver s)

theorem afterWrite_driver (s : State) : SameDriver (afterWrite s) s := by
  unfold afterWrite
  split
  · exact (loadEntry_driver _).trans (advanceTix_driver s)
  · exact returnToHost_driver s

/-- Returning to its caller, a transmission does nothing at the line driver. -/
theorem afterSend_driver (s : State) : SameDriver (afterSend s) s := by
  cases h : s.phase with
  | none => rw [afterSend_of_none h]; exact returnToHost_driver s
  | addr => rw [afterSend_of_addr h]; exact enterData_driver s
  | data => rw [afterSend_of_data h]; exact (afterWrite_driver _).trans (finishWrite_driver s)

/-- A micro-step of a transmission appends one event, that of its action. -/
theorem microStep_trace {s : State} {u : Fin 79} (h : s.upc = some u) :
    ∃ e : Event, (microStep s).trace = s.trace ++ [e] ∧ e.action = (transmitScript s.w)[u.val]? := by
  obtain ⟨htrace, -⟩ := runActions_logs (Continues.refl s) [microAction s.w u.val]
  have haction := actionEvents_action s 0 [microAction s.w u.val]
  rw [transmitScript_getElem?]
  rw [microStep_eq h]
  cases hm : actionEvents s 0 [microAction s.w u.val] with
  | nil => rw [hm] at haction; cases haction
  | cons e es =>
    rw [hm] at haction htrace
    obtain ⟨he, hes⟩ := List.cons.inj haction
    obtain rfl := List.map_eq_nil_iff.1 hes
    exact ⟨e, htrace, he⟩

/-- Settles O27: the micro-step within a transmission, and the last one with its return. -/
theorem microStepsAreNumbered : Obligations.MicroStepsAreNumbered := by
  intro s u hbusy hupc hc
  obtain ⟨hkeep, hphase, -, hw⟩ := microStep_rest s
  obtain ⟨e, htrace, haction⟩ := microStep_trace hupc
  have hnext : (microStep s).upc = nextUpc u := by rw [microStep_eq hupc]; rfl
  by_cases hu : u.val + 1 < 79
  · rw [nextUpc_of_lt hu] at hnext
    refine ⟨microStep s, e, ?_, htrace, haction,
      fun _ => ⟨hnext, hphase, hw, hkeep.busy.trans hbusy⟩, fun hlast => by omega⟩
    rw [step_of_busy hbusy, seqStep_within hc hupc hnext]
  · rw [nextUpc_of_last (by omega)] at hnext
    obtain ⟨-, -, -, hsame, -⟩ := afterSend_driver (microStep s).scrubW
    refine ⟨afterSend (microStep s).scrubW, e, ?_, hsame.trans htrace, haction,
      fun h => absurd h hu, fun _ hnone => ?_⟩
    · rw [step_of_busy hbusy, seqStep_last hc hupc hnext]
    · have hret : (microStep s).scrubW.phase = .none := hphase.trans hnone
      rw [afterSend_of_none hret]
      exact ⟨hnext, rfl⟩

/-! ### The sequencer's position, step by step (R16, R17, R25) -/

/-- From `s` to `t` nothing above the line registers has changed: neither the client's and the host's
fields, nor the sequencer's position, nor the ghost map. -/
structure SameAbove (s t : State) : Prop extends SameClient s t where
  upc : t.upc = s.upc
  phase : t.phase = s.phase
  target : t.target = s.target

theorem lineExport_above (l : Line) (s : State) : SameAbove s (lineExport l s) := by
  rw [lineExport_eq]; exact ⟨⟨rfl, rfl, rfl, rfl, rfl, rfl, rfl⟩, rfl, rfl, rfl⟩

theorem lineSetDir_above (l : Line) (d : Dir) (s : State) : SameAbove s (lineSetDir l d s) := by
  rw [lineSetDir_eq]; exact ⟨⟨rfl, rfl, rfl, rfl, rfl, rfl, rfl⟩, rfl, rfl, rfl⟩

theorem lineWrite_above (l : Line) (b : Level) (s : State) : SameAbove s (lineWrite l b s) := by
  rw [lineWrite_eq]; exact ⟨⟨rfl, rfl, rfl, rfl, rfl, rfl, rfl⟩, rfl, rfl, rfl⟩

theorem setupAttempt_above (k : Fin 6) (s : State) : SameAbove s (setupAttempt k s) := by
  unfold setupAttempt
  split
  · exact lineExport_above _ s
  · exact lineSetDir_above _ _ s
  · exact lineExport_above _ s
  · exact lineSetDir_above _ _ s
  · exact lineExport_above _ s
  · exact lineSetDir_above _ _ s

/-- Between two entries: the block is busy with a bring-up, and nothing of it is in flight. -/
structure EntryDue (s : State) : Prop where
  busy : s.busy = true
  upc : s.upc = none
  phase : s.phase = .none
  client : s.client = .panel

/-- The next entry is put in flight, or the bring-up returns. -/
theorem EntryDue.loadEntry_coherent {s : State} (h : EntryDue s) : Coherent (loadEntry s) := by
  cases he : s.params.panelTable[s.tix]? with
  | some e =>
    have hlt : s.tix < s.params.panelTable.length := (List.getElem?_eq_some_iff.1 he).1
    have hbusy : (beginWrite e.reg (entryValue e.value s.p) s).busy = true := h.busy
    have hclient : (beginWrite e.reg (entryValue e.value s.p) s).client = .panel := h.client
    rw [loadEntry_of_entry he, Coherent, hbusy, hclient]
    exact ⟨Option.some_ne_none _, Phase.noConfusion, hlt⟩
  | none =>
    rw [loadEntry_of_end he]
    exact ⟨rfl, h.upc, h.phase, rfl, rfl⟩

theorem coherent_of_seqIdle {s : State} (h : SeqIdle s) : Coherent s := by
  have ⟨hbusy, _⟩ := h
  rw [Coherent, hbusy]
  exact h

theorem coherent_of_lineSetup {s : State} {k : Fin 6} (hbusy : s.busy = true)
    (hclient : s.client = .lineSetup k) :
    Coherent s ↔ s.upc = none ∧ s.phase = .none ∧ s.tix = 0 := by
  rw [Coherent, hbusy, hclient]

theorem coherent_of_bare {s : State} (hbusy : s.busy = true) (hclient : s.client = .idle) :
    Coherent s ↔ s.upc ≠ none ∧ s.tix = 0 := by
  rw [Coherent, hbusy, hclient]

theorem coherent_of_panel {s : State} (hbusy : s.busy = true) (hclient : s.client = .panel) :
    Coherent s ↔ s.upc ≠ none ∧ s.phase ≠ .none ∧ s.tix < s.params.panelTable.length := by
  rw [Coherent, hbusy, hclient]

/-- After an attempt of line set-up: the next attempt, or the bring-up begins. -/
theorem afterSetup_coherent {s : State} (k : Fin 6) (hbusy : s.busy = true) (hupc : s.upc = none)
    (hphase : s.phase = .none) (htix : s.tix = 0) : Coherent (afterSetup k s) := by
  unfold afterSetup
  split
  · next h =>
      have hnext : (s.atClient (.lineSetup ⟨k.val + 1, h⟩)).busy = true := hbusy
      exact (coherent_of_lineSetup hnext rfl).2 ⟨hupc, hphase, htix⟩
  · have hdue : EntryDue ((markInit s).atClient .panel) := ⟨hbusy, hupc, hphase, rfl⟩
    exact hdue.loadEntry_coherent

/-- A transmission that has just ended, its `upc` idle, returns to a caller whose position fits. -/
theorem afterSend_coherent {s : State} (hbusy : s.busy = true) (hupc : s.upc = none)
    (h : s.client = .idle ∧ s.tix = 0 ∨
      s.client = .panel ∧ s.phase ≠ .none ∧ s.tix < s.params.panelTable.length) :
    Coherent (afterSend s) := by
  cases hphase : s.phase with
  | none =>
    rcases h with ⟨hclient, htix⟩ | ⟨-, hne, -⟩
    · rw [afterSend_of_none hphase]
      exact ⟨rfl, hupc, hphase, hclient, htix⟩
    · exact absurd hphase hne
  | addr =>
    rw [afterSend_of_addr hphase]
    have hbegun : (beginSend (dataFrame s.v) (enterData s)).busy = true := hbusy
    rcases h with ⟨hclient, htix⟩ | ⟨hclient, -, hlt⟩
    · exact (coherent_of_bare hbegun hclient).2 ⟨Option.some_ne_none _, htix⟩
    · exact (coherent_of_panel hbegun hclient).2 ⟨Option.some_ne_none _, Phase.noConfusion, hlt⟩
  | data =>
    rw [afterSend_of_data hphase]
    rcases h with ⟨hclient, htix⟩ | ⟨hclient, -, -⟩
    · have hidle : (finishWrite s).client = .idle := hclient
      rw [afterWrite_of_idle hidle]
      exact ⟨rfl, hupc, rfl, hclient, htix⟩
    · have hpanel : (finishWrite s).client = .panel := hclient
      have hdue : EntryDue (advanceTix (finishWrite s)) := ⟨hbusy, hupc, rfl, hclient⟩
      rw [afterWrite_of_panel hpanel]
      exact hdue.loadEntry_coherent

/-- A block that is not in line set-up has a bare operation or a bring-up. -/
theorem client_of_notInSetup {s : State} (h : NotInSetup s) : s.client = .idle ∨ s.client = .panel := by
  cases hclient : s.client with
  | idle => exact .inl rfl
  | lineSetup k => exact absurd hclient (h k)
  | panel => exact .inr rfl

theorem seqStep_coherent {s : State} (hbusy : s.busy = true) (h : Coherent s) : Coherent (seqStep s) := by
  rcases seqStep_cases s with ⟨k, hclient, heq⟩ | ⟨hc, hupc, -⟩ | ⟨hc, u, hu, hupc, hnext, heq⟩ |
    ⟨hc, u, hupc, hlast, heq⟩
  · obtain ⟨hupc, hphase, htix⟩ := (coherent_of_lineSetup hbusy hclient).1 h
    have hkeep := setupAttempt_above k s
    rw [heq]
    exact afterSetup_coherent k (hkeep.busy.trans hbusy) (hkeep.upc.trans hupc)
      (hkeep.phase.trans hphase) (hkeep.tix.trans htix)
  · exfalso
    rcases client_of_notInSetup hc with hclient | hclient
    · exact ((coherent_of_bare hbusy hclient).1 h).1 hupc
    · exact ((coherent_of_panel hbusy hclient).1 h).1 hupc
  · obtain ⟨hkeep, hphase, -, -⟩ := microStep_rest s
    have hgoes : (microStep s).upc ≠ none := by rw [hnext]; exact Option.some_ne_none _
    rw [heq]
    rcases client_of_notInSetup hc with hclient | hclient
    · obtain ⟨-, htix⟩ := (coherent_of_bare hbusy hclient).1 h
      exact (coherent_of_bare (hkeep.busy.trans hbusy) (hkeep.client.trans hclient)).2
        ⟨hgoes, hkeep.tix.trans htix⟩
    · obtain ⟨-, hne, hlt⟩ := (coherent_of_panel hbusy hclient).1 h
      exact (coherent_of_panel (hkeep.busy.trans hbusy) (hkeep.client.trans hclient)).2
        ⟨hgoes, by rwa [hphase], by rwa [hkeep.tix, hkeep.params]⟩
  · obtain ⟨hkeep, hphase, -, -⟩ := microStep_rest s
    have hended : (microStep s).upc = none := by
      rw [microStep_eq hupc]
      exact nextUpc_of_last hlast
    rw [heq]
    refine afterSend_coherent (hkeep.busy.trans hbusy) hended ?_
    rcases client_of_notInSetup hc with hclient | hclient
    · obtain ⟨-, htix⟩ := (coherent_of_bare hbusy hclient).1 h
      exact .inl ⟨hkeep.client.trans hclient, hkeep.tix.trans htix⟩
    · obtain ⟨-, hne, hlt⟩ := (coherent_of_panel hbusy hclient).1 h
      refine .inr ⟨hkeep.client.trans hclient, ?_, ?_⟩
      · rwa [State.scrubW_phase, hphase]
      · rwa [State.scrubW_tix, State.scrubW_params, hkeep.tix, hkeep.params]

/-! ### What an operation leaves of the position and of the ghost map -/

/-- The three kinds of wire word are transmissions (log 10). -/
theorem issued_frameAddr (a : Word16) (s : State) :
    issued (.frameAddr a) s = issued (.transmit (addrFrame a)) s := rfl

theorem issued_frameData (v : Word16) (s : State) :
    issued (.frameData v) s = issued (.transmit (dataFrame v)) s := rfl

theorem issued_frameRaw (w : Word24) (s : State) : issued (.frameRaw w) s = issued (.transmit w) s := rfl

theorem issued_transmit_target (w : Word24) (s : State) : (issued (.transmit w) s).target = s.target := by
  obtain ⟨-, -, -, -, -, htarget, -⟩ := sendWord_rest w s.raiseBusy
  rw [issued, returnToHost_target, bodyOf, htarget, State.raiseBusy_target]

/-- A line-driver operation leaves an idle block idle. -/
theorem SameAbove.seqIdle {s t : State} (h : SameAbove s.raiseBusy t) (hs : SeqIdle s) :
    SeqIdle (returnToHost t) := by
  obtain ⟨-, hupc, hphase, hclient, htix⟩ := hs
  exact ⟨rfl, h.upc.trans hupc, h.phase.trans hphase, h.client.trans hclient, h.tix.trans htix⟩

/-- A register write leaves an idle block idle. -/
theorem SeqIdle.issued_writereg {s : State} (hs : SeqIdle s) (a v : Word16) :
    SeqIdle (issued (.writereg a v) s) := by
  obtain ⟨-, -, -, hclient, htix⟩ := hs
  obtain ⟨hkeep, hupc, hphase, -⟩ := writeReg_rest a v s.raiseBusy
  rw [issued, bodyOf, SeqIdle, returnToHost_busy, returnToHost_upc, returnToHost_phase,
    returnToHost_client, returnToHost_tix]
  exact ⟨rfl, hupc, hphase, hkeep.client.trans hclient, hkeep.tix.trans htix⟩

/-- Every operation issued at an idle block leaves the block idle (R25). -/
theorem SeqIdle.issued_idle {s : State} (hs : SeqIdle s) (i : Instr) : SeqIdle (issued i s) := by
  have ⟨_, hupc, hphase, _⟩ := hs
  cases i with
  | exportLine l => exact (lineExport_above l _).seqIdle hs
  | setdirIn l => exact (lineSetDir_above l _ _).seqIdle hs
  | setdirOut l => exact (lineSetDir_above l _ _).seqIdle hs
  | wrlevel0 l => exact (lineWrite_above l _ _).seqIdle hs
  | wrlevel1 l => exact (lineWrite_above l _ _).seqIdle hs
  | transmit w => exact SeqIdle.issued_transmit hs w
  | writereg a v => exact hs.issued_writereg a v
  | initpanel p => exact bringUp_returns_idle p hupc hphase
  | setdisplay b c => exact hs.issued_setdisplay b c
  | frameAddr a => rw [issued_frameAddr]; exact hs.issued_transmit _
  | frameData v => rw [issued_frameData]; exact hs.issued_transmit _
  | frameRaw w => rw [issued_frameRaw]; exact hs.issued_transmit w

theorem entriesTarget_wf (es : List PanelEntry) (p : Word16) {m : Memory} (h : m.wf = true) :
    (entriesTarget es p m).wf = true := by
  induction es generalizing m with
  | nil => exact h
  | cons e es ih => exact ih (Memory.write_wf h e.reg.isLt _)

/-- Every operation keeps the ghost map's canonical form. -/
theorem issued_target_wf (i : Instr) {s : State} (h : s.target.wf = true) :
    (issued i s).target.wf = true := by
  have hsend : ∀ w, (issued (.transmit w) s).target.wf = true := fun w => by
    rw [issued_transmit_target]; exact h
  have habove : ∀ {t : State}, SameAbove s.raiseBusy t → (returnToHost t).target.wf = true := fun ht => by
    rw [returnToHost_target, ht.target]; exact h
  cases i with
  | exportLine l => exact habove (lineExport_above l _)
  | setdirIn l => exact habove (lineSetDir_above l _ _)
  | setdirOut l => exact habove (lineSetDir_above l _ _)
  | wrlevel0 l => exact habove (lineWrite_above l _ _)
  | wrlevel1 l => exact habove (lineWrite_above l _ _)
  | transmit w => exact hsend w
  | writereg a v => rw [issued_writereg_target]; exact Memory.write_wf h a.isLt v
  | initpanel p =>
    obtain ⟨htarget, -⟩ := issued_initpanel_rest p s
    rw [htarget]; exact entriesTarget_wf _ p h
  | setdisplay b c =>
    obtain ⟨htarget, -⟩ := issued_setdisplay_rest b c s
    rw [htarget]; exact entriesTarget_wf _ _ h
  | frameAddr a => rw [issued_frameAddr]; exact hsend _
  | frameData v => rw [issued_frameData]; exact hsend _
  | frameRaw w => rw [issued_frameRaw]; exact hsend w

theorem loadEntry_target (s : State) : (loadEntry s).target = s.target := by
  cases h : s.params.panelTable[s.tix]? with
  | some e => rw [loadEntry_of_entry h]; rfl
  | none => rw [loadEntry_of_end h]; rfl

theorem afterWrite_target (s : State) : (afterWrite s).target = s.target := by
  unfold afterWrite
  split
  · exact loadEntry_target _
  · rfl

theorem afterSetup_target (k : Fin 6) (s : State) : (afterSetup k s).target = s.target := by
  unfold afterSetup
  split
  · rfl
  · exact loadEntry_target _

/-- Only the return of a data phase writes the ghost map. -/
theorem afterSend_target_wf {s : State} (h : s.target.wf = true) : (afterSend s).target.wf = true := by
  cases hphase : s.phase with
  | none => rw [afterSend_of_none hphase]; exact h
  | addr => rw [afterSend_of_addr hphase]; exact h
  | data =>
    rw [afterSend_of_data hphase, afterWrite_target]
    exact State.recordTarget_wf h s.a s.v

/-- Every micro-step keeps the ghost map's canonical form. -/
theorem seqStep_target_wf {s : State} (h : s.target.wf = true) : (seqStep s).target.wf = true := by
  obtain ⟨-, -, hmicro, -⟩ := microStep_rest s
  rcases seqStep_cases s with ⟨k, -, heq⟩ | ⟨-, -, heq⟩ | ⟨-, u, hu, -, -, heq⟩ | ⟨-, u, -, -, heq⟩
  · rw [heq, afterSetup_target, (setupAttempt_above k s).target]; exact h
  · rw [heq]; exact h
  · rw [heq, hmicro]; exact h
  · rw [heq]
    exact afterSend_target_wf (by rw [State.scrubW_target, hmicro]; exact h)

/-! ### The invariant (R21, R25, R76) -/

/-- Settles O49: nothing has happened yet. -/
theorem resetMeetsInv : Obligations.ResetMeetsInv := ⟨rfl, rfl, rfl, rfl, rfl, rfl, rfl, rfl, rfl⟩

/-- The request list is no part of the invariant. -/
theorem Inv.withPort {s : State} (h : Inv s) (rest : List PortItem) : Inv (s.withPort rest) :=
  ⟨h.target_wf, h.diag_eq, h.history_last, h.history_length, h.coherent⟩

/-- The last triple of a log that grows is that of the growth, from the last one on. -/
theorem getLast?_append_of_chain {α : Type} {a b : α} {xs ys : List α} (hx : xs.getLast? = some a)
    (hy : (a :: ys).getLast? = some b) : (xs ++ ys).getLast? = some b := by
  cases ys with
  | nil => simp_all
  | cons y ys => simpa [List.getLast?_append, List.getLast?_cons] using hy

/-- Growth keeps the clauses on the logs; the ghost map and the position are what a step adds. -/
theorem Inv.of_grows {s t : State} (h : Inv s) (hg : Grows s t) (hwf : t.target.wf = true)
    (hcoh : Coherent t) : Inv t := by
  obtain ⟨es, hg⟩ := hg
  obtain ⟨hs, hhistory, hlength, hlast⟩ := hg.history
  exact {
    target_wf := hwf
    diag_eq := by rw [hg.diag, hg.trace, List.filterMap_append, h.diag_eq]
    history_last := by rw [hhistory]; exact getLast?_append_of_chain h.history_last hlast
    history_length := by
      rw [hhistory, hg.trace, List.length_append, List.length_append, h.history_length, hlength]; omega
    coherent := hcoh }

theorem Inv.seqIdle {s : State} (h : Inv s) (hbusy : s.busy = false) : SeqIdle s := by
  have hcoh := h.coherent
  rwa [Coherent, hbusy] at hcoh

/-- Settles O50: a step is growth; a micro-step keeps the position coherent, a whole operation runs from
an idle block to an idle block. -/
theorem stepKeepsInv : Obligations.StepKeepsInv := by
  intro s t h hstep
  rcases step_cases hstep with ⟨hbusy, rfl⟩ | ⟨-, -, rfl⟩ | ⟨hbusy, item, rest, i, -, -, rfl⟩
  · exact h.of_grows (seqStep_grows s) (seqStep_target_wf h.target_wf) (seqStep_coherent hbusy h.coherent)
  · exact h
  · have hidle : SeqIdle (s.withPort rest) := h.seqIdle hbusy
    exact (h.withPort rest).of_grows (issued_grows i _) (issued_target_wf i h.target_wf)
      (coherent_of_seqIdle (hidle.issued_idle i))

end Sys2Proof.Machine

/-! PROOFS. Programs and the sequencer: the requests at the port run in order (R7, R38), the packed word is
latched at the issue (R48), and the micro-steps of an operation end in the state that `exec` answers, after
the number R137 gives. -/

namespace Sys2Proof.Machine

/-! ### No operation looks at the requests (log 7) -/

/-- The operation neither reads nor writes the request list. -/
def IgnoresPort (f : State → State) : Prop :=
  ∀ rest : List PortItem, Function.Commute f (·.withPort rest)

theorem IgnoresPort.comp {f g : State → State} (hf : IgnoresPort f) (hg : IgnoresPort g) :
    IgnoresPort (fun s => f (g s)) := fun rest => (hf rest).comp_left (hg rest)

theorem lineExport_ignoresPort (l : Line) : IgnoresPort (lineExport l) := fun rest s => by
  rw [lineExport_eq, lineExport_eq]; rfl

theorem lineSetDir_ignoresPort (l : Line) (d : Dir) : IgnoresPort (lineSetDir l d) := fun rest s => by
  rw [lineSetDir_eq, lineSetDir_eq]; rfl

theorem lineWrite_ignoresPort (l : Line) (b : Level) : IgnoresPort (lineWrite l b) := fun rest s => by
  rw [lineWrite_eq, lineWrite_eq]; rfl

theorem perform_ignoresPort (m : MicroAction) : IgnoresPort (perform m) := by
  cases m with
  | write l b => exact lineWrite_ignoresPort l b
  | delay => exact fun _ _ => rfl

theorem microStep_ignoresPort : IgnoresPort microStep := fun rest s => by
  cases h : s.upc with
  | none =>
    have h' : (s.withPort rest).upc = none := h
    simp only [microStep, h, h']
  | some u =>
    have h' : (s.withPort rest).upc = some u := h
    rw [microStep_eq h, microStep_eq h']
    exact congrArg (·.atMicro (nextUpc u)) (perform_ignoresPort _ rest s)

theorem sendWord_ignoresPort (w : Word24) : IgnoresPort (sendWord w) := by
  have hsteps : IgnoresPort microStep^[79] := fun rest => (microStep_ignoresPort rest).iterate_left 79
  have hbegin : IgnoresPort (beginSend w) := fun _ _ => rfl
  have hscrub : IgnoresPort State.scrubW := fun _ _ => rfl
  exact hscrub.comp (hsteps.comp hbegin)

theorem writeReg_ignoresPort (a v : Word16) : IgnoresPort (writeReg a v) := by
  have hlatch : IgnoresPort (latchWrite a v) := fun _ _ => rfl
  have hdata : IgnoresPort enterData := fun _ _ => rfl
  have hfinish : IgnoresPort finishWrite := fun _ _ => rfl
  have hsent : IgnoresPort (writeSent a v) :=
    (sendWord_ignoresPort (dataFrame v)).comp
      (hdata.comp ((sendWord_ignoresPort (addrFrame a)).comp hlatch))
  rw [show writeReg a v = fun s => finishWrite (writeSent a v s) from funext (writeReg_eq_finish a v)]
  exact hfinish.comp hsent

theorem runEntries_ignoresPort (es : List PanelEntry) : IgnoresPort (runEntries es) := by
  intro rest s
  induction es generalizing s with
  | nil => rfl
  | cons e es ih =>
    have hwrite : writeReg e.reg (entryValue e.value s.p) (s.withPort rest) =
        (writeReg e.reg (entryValue e.value s.p) s).withPort rest := writeReg_ignoresPort _ _ rest s
    have hnext : ∀ t : State, advanceTix (t.withPort rest) = (advanceTix t).withPort rest := fun _ => rfl
    simp only [runEntries, State.withPort_p, hwrite, hnext]
    exact ih _

theorem bringUp_ignoresPort (p : Word16) : IgnoresPort (bringUp p) := fun rest s =>
  congrArg finishPanel (runEntries_ignoresPort s.params.panelTable rest (latchPanel p s))

theorem setupLine_ignoresPort (l : Line) : IgnoresPort (setupLine l) :=
  (lineSetDir_ignoresPort l .output).comp (lineExport_ignoresPort l)

theorem lineSetup_ignoresPort : IgnoresPort lineSetup :=
  (setupLine_ignoresPort .data).comp ((setupLine_ignoresPort .clk).comp (setupLine_ignoresPort .cs))

theorem displayReady_ignoresPort : IgnoresPort displayReady := fun rest s => by
  cases h : setupDue s with
  | true =>
    have h' : setupDue (s.withPort rest) = true := h
    rw [displayReady_of_due h, displayReady_of_due h']
    exact congrArg markInit (lineSetup_ignoresPort rest s)
  | false =>
    have h' : setupDue (s.withPort rest) = false := h
    rw [displayReady_of_not_due h, displayReady_of_not_due h']

theorem bodyOf_ignoresPort (i : Instr) : IgnoresPort (bodyOf i) := by
  cases i with
  | exportLine l => exact lineExport_ignoresPort l
  | setdirIn l => exact lineSetDir_ignoresPort l _
  | setdirOut l => exact lineSetDir_ignoresPort l _
  | wrlevel0 l => exact lineWrite_ignoresPort l _
  | wrlevel1 l => exact lineWrite_ignoresPort l _
  | transmit w => exact sendWord_ignoresPort w
  | writereg a v => exact writeReg_ignoresPort a v
  | initpanel p => exact bringUp_ignoresPort p
  | setdisplay b c => exact (bringUp_ignoresPort (packDisplay b c)).comp displayReady_ignoresPort
  | frameAddr a => exact sendWord_ignoresPort _
  | frameData v => exact sendWord_ignoresPort _
  | frameRaw w => exact sendWord_ignoresPort w

theorem issued_withPort (i : Instr) (rest : List PortItem) (s : State) :
    issued i (s.withPort rest) = (issued i s).withPort rest :=
  congrArg returnToHost (bodyOf_ignoresPort i rest s.raiseBusy)

theorem State.withPort_withPort (s : State) (items rest : List PortItem) :
    (s.withPort items).withPort rest = s.withPort rest := rfl

/-! ### The requests run in order (R7, R38) -/

theorem runSteps_succ_of_next {s t : State} (h : step s = .next t) (n : Nat) :
    runSteps (n + 1) s = runSteps n t := by
  simp only [runSteps, h]

/-- With the encodings of some operations at the port, one step each leaves what issuing the operations
one after another leaves, and no request. -/
theorem runSteps_encoded (is : List Instr) {s : State} (hs : SeqIdle s)
    (hpins : pinsDistinct s.params.pins = true) (hwf : ∀ i ∈ is, i.wf = true) :
    ∃ u, execAll is s = .next u ∧ SeqIdle u ∧
      runSteps is.length (s.withPort (is.map (encode s.params.pins))) = .next (u.withPort []) := by
  induction is generalizing s with
  | nil => exact ⟨s, rfl, hs, rfl⟩
  | cons i is ih =>
    have ⟨hbusy, _⟩ := hs
    obtain ⟨es, hg⟩ := issued_grows i s
    have hparams : (issued i s).params = s.params := hg.params
    obtain ⟨u, hexec, hidle, hruns⟩ := ih (hs.issued_idle i) (by rwa [hparams])
      fun j hj => hwf j (List.mem_cons_of_mem i hj)
    have hstep : step (s.withPort ((i :: is).map (encode s.params.pins))) =
        .next ((issued i s).withPort (is.map (encode s.params.pins))) := by
      have hready : ∀ items, (s.withPort items).busy = false := fun _ => hbusy
      have hdec := decodeOfEncode s.params.pins i hpins (hwf i List.mem_cons_self)
      rw [List.map_cons, stepRunsDecodedOperation _ _ _ i (hready _) rfl hdec, State.withPort_withPort,
        exec_ready (hready _), issued_withPort]
    refine ⟨u, (execAll_cons_of_next (exec_ready hbusy i) is).trans hexec, hidle, ?_⟩
    rw [List.length_cons, runSteps_succ_of_next hstep, ← hparams]
    exact hruns

/-- Settles O44: the requests at the port are the encodings. -/
theorem requestsRunInOrder : Obligations.RequestsRunInOrder := by
  intro is s hs hpins hwf hport
  obtain ⟨u, hexec, hidle, hruns⟩ := runSteps_encoded is hs hpins hwf
  have hself : s.withPort (is.map (encode s.params.pins)) = s := by rw [← hport]; rfl
  rw [hself] at hruns
  exact ⟨u.withPort [], u, hruns, hexec, rfl, rfl, hidle⟩

/-! ### Micro-steps under `BUSY` (R18) -/

/-- From `s`, `n` micro-steps lead to `t`, and `BUSY` is true at each of them. -/
def RunsBusy (n : Nat) (s t : State) : Prop :=
  seqStep^[n] s = t ∧ ∀ k, k < n → (seqStep^[k] s).busy = true

theorem RunsBusy.refl (s : State) : RunsBusy 0 s s := ⟨rfl, fun _ h => absurd h (Nat.not_lt_zero _)⟩

theorem RunsBusy.of_eq {s t : State} (h : s = t) : RunsBusy 0 s t := h ▸ RunsBusy.refl s

theorem RunsBusy.trans {m n : Nat} {s t u : State} (h : RunsBusy m s t) (k : RunsBusy n t u) :
    RunsBusy (n + m) s u := by
  obtain ⟨ht, hbusy⟩ := h
  obtain ⟨hu, hbusy'⟩ := k
  refine ⟨by rw [Function.iterate_add_apply, ht, hu], fun j hj => ?_⟩
  by_cases hjm : j < m
  · exact hbusy j hjm
  · obtain ⟨d, rfl⟩ : ∃ d, j = d + m := ⟨j - m, by omega⟩
    rw [Function.iterate_add_apply, ht]
    exact hbusy' d (by omega)

theorem RunsBusy.head {n : Nat} {s t : State} (hbusy : s.busy = true) (h : RunsBusy n (seqStep s) t) :
    RunsBusy (n + 1) s t := by
  have hone : RunsBusy 1 s (seqStep s) := ⟨rfl, fun k hk => by
    obtain rfl : k = 0 := by omega
    exact hbusy⟩
  exact hone.trans h

section
variable {s : State} (hbusy : s.busy = true) (hc : NotInSetup s)
include hbusy hc

/-- A transmission in flight, until it returns to its caller. -/
theorem runsBusy_beginSend (w : Word24) : RunsBusy 79 (beginSend w s) (afterSend (sendWord w s)) := by
  refine ⟨seqStep_transmission w hc, fun k hk => ?_⟩
  rw [seqStep_iterate_beginSend w hc hk]
  exact (runActions_same ((transmitScript w).take k) s).busy.trans hbusy

/-- A register write in flight, until it returns to its caller. -/
theorem runsBusy_beginWrite (a v : Word16) : RunsBusy 158 (beginWrite a v s) (afterWrite (writeReg a v s)) := by
  obtain ⟨hkeep, -, -, hvalue, hphase, -, -⟩ := sendWord_rest (addrFrame a) (latchWrite a v s)
  obtain ⟨-, -, -, -, hphase', -, -⟩ := sendWord_rest (dataFrame v) (addrSent a v s)
  have haddr : RunsBusy 79 (beginWrite a v s) (beginSend (dataFrame v) (addrSent a v s)) := by
    have hrun := runsBusy_beginSend (s := latchWrite a v s) hbusy hc (addrFrame a)
    rw [afterSend_of_addr (hphase.trans (latchWrite_phase s a v)), hvalue, latchWrite_v] at hrun
    exact hrun
  have hdata : RunsBusy 79 (beginSend (dataFrame v) (addrSent a v s)) (afterWrite (writeReg a v s)) := by
    have hbusy' : (addrSent a v s).busy = true := by
      rw [addrSent, enterData_busy, hkeep.busy]; exact hbusy
    have hc' : NotInSetup (addrSent a v s) := fun k => by
      rw [addrSent, enterData_client, hkeep.client]; exact hc k
    have hentered : (addrSent a v s).phase = .data := by rw [addrSent, enterData_phase]
    have hrun := runsBusy_beginSend hbusy' hc' (dataFrame v)
    rw [afterSend_of_data (hphase'.trans hentered), sendWord_addrSent, ← writeReg_eq_finish] at hrun
    exact hrun
  exact haddr.trans hdata

end

/-! ### A bring-up, entry by entry (R95) -/

/-- From an entry that is due, the rest of the table runs until the bring-up returns to the host. -/
theorem runsBusy_loadEntry (es : List PanelEntry) {s : State} (hbusy : s.busy = true)
    (hclient : s.client = .panel) (hes : s.params.panelTable.drop s.tix = es) :
    RunsBusy (158 * es.length) (loadEntry s) (returnToHost (finishPanel (runEntries es s))) := by
  induction es generalizing s with
  | nil =>
    have hend : s.params.panelTable[s.tix]? = none := by
      rw [← List.head?_drop, hes]; rfl
    rw [loadEntry_of_end hend]
    exact RunsBusy.refl _
  | cons e es ih =>
    have hentry : s.params.panelTable[s.tix]? = some e := by
      rw [← List.head?_drop, hes]; rfl
    obtain ⟨hkeep, -⟩ := writeReg_rest e.reg (entryValue e.value s.p) s
    have hwritten : (writeReg e.reg (entryValue e.value s.p) s).client = .panel :=
      hkeep.client.trans hclient
    have hwrite := runsBusy_beginWrite hbusy (fun k => by rw [hclient]; exact Client.noConfusion)
      e.reg (entryValue e.value s.p)
    rw [← loadEntry_of_entry hentry, afterWrite_of_panel hwritten] at hwrite
    have hleft : (advanceTix (writeReg e.reg (entryValue e.value s.p) s)).params.panelTable.drop
        (advanceTix (writeReg e.reg (entryValue e.value s.p) s)).tix = es := by
      rw [advanceTix_params, advanceTix_tix, hkeep.params, hkeep.tix, ← List.drop_drop, hes]; rfl
    have hrest := ih ((advanceTix_busy _).trans (hkeep.busy.trans hbusy))
      ((advanceTix_client _).trans hwritten) hleft
    exact hwrite.trans hrest

/-! ### Line set-up, attempt by attempt (R98) -/

/-- A SETDISPLAY of the packed word `p` with attempt `k` of line set-up next. -/
def inSetup (p : Word16) (k : Fin 6) (s : State) : State := (latchPanel p s).atClient (.lineSetup k)

/-- The attempts do not look at the client's fields. -/
theorem setupAttempt_inSetup (p : Word16) (j k : Fin 6) (s : State) :
    setupAttempt k (inSetup p j s) = inSetup p j (setupAttempt k s) := by
  have hexport : ∀ l, lineExport l (inSetup p j s) = inSetup p j (lineExport l s) := fun l => by
    rw [lineExport_eq, lineExport_eq]; rfl
  have hdir : ∀ l, lineSetDir l .output (inSetup p j s) = inSetup p j (lineSetDir l .output s) := fun l => by
    rw [lineSetDir_eq, lineSetDir_eq]; rfl
  unfold setupAttempt
  split
  · exact hexport .cs
  · exact hdir .cs
  · exact hexport .clk
  · exact hdir .clk
  · exact hexport .data
  · exact hdir .data

theorem seqStep_inSetup (p : Word16) (k : Fin 6) (s : State) :
    seqStep (inSetup p k s) = afterSetup k (inSetup p k (setupAttempt k s)) := by
  rw [← setupAttempt_inSetup]; rfl

/-- An attempt of line set-up that is not the last, with what follows it. -/
theorem RunsBusy.inSetup_head {p : Word16} {k k' : Fin 6} {n : Nat} {s t : State} (hk : k.val + 1 = k'.val)
    (hbusy : s.busy = true)
    (h : (setupAttempt k s).busy = true → RunsBusy n (inSetup p k' (setupAttempt k s)) t) :
    RunsBusy (n + 1) (inSetup p k s) t := by
  have hlt : k.val + 1 < 6 := by omega
  obtain rfl : ⟨k.val + 1, hlt⟩ = k' := Fin.ext hk
  refine RunsBusy.head hbusy ?_
  rw [seqStep_inSetup, afterSetup, dif_pos hlt]
  exact h ((setupAttempt_above k s).busy.trans hbusy)

/-- The last attempt of line set-up, after which the bring-up begins. -/
theorem runsBusy_lastAttempt (p : Word16) {s : State} (hbusy : s.busy = true) :
    RunsBusy 1 (inSetup p 5 s) (loadEntry (latchPanel p (markInit (setupAttempt 5 s)))) := by
  refine RunsBusy.head hbusy (RunsBusy.of_eq ?_)
  rw [seqStep_inSetup]
  generalize setupAttempt 5 s = t
  rfl

theorem lineSetup_eq_attempts (s : State) :
    lineSetup s = setupAttempt 5 (setupAttempt 4 (setupAttempt 3 (setupAttempt 2 (setupAttempt 1
      (setupAttempt 0 s))))) := rfl

/-- Line set-up runs its six attempts and then the bring-up begins. -/
theorem runsBusy_inSetup (p : Word16) {s : State} (hbusy : s.busy = true) :
    RunsBusy 6 (inSetup p 0 s) (loadEntry (latchPanel p (markInit (lineSetup s)))) := by
  rw [lineSetup_eq_attempts]
  refine .inSetup_head (k' := 1) rfl hbusy fun h1 => ?_
  refine .inSetup_head (k' := 2) rfl h1 fun h2 => ?_
  refine .inSetup_head (k' := 3) rfl h2 fun h3 => ?_
  refine .inSetup_head (k' := 4) rfl h3 fun h4 => ?_
  refine .inSetup_head (k' := 5) rfl h4 fun h5 => ?_
  exact runsBusy_lastAttempt p h5

/-! ### The operations (R137) -/

theorem SeqIdle.runsBusy_transmit {s : State} (hs : SeqIdle s) (w : Word24) :
    RunsBusy 79 (start (.transmit w) s) (issued (.transmit w) s) := by
  obtain ⟨-, hbusy⟩ := runsBusy_beginSend (s := s.raiseBusy) rfl hs.notInSetup_raiseBusy w
  exact ⟨hs.seqStep_iterate_transmit_end w, hbusy⟩

theorem SeqIdle.runsBusy_writereg {s : State} (hs : SeqIdle s) (a v : Word16) :
    RunsBusy 158 (start (.writereg a v) s) (issued (.writereg a v) s) := by
  obtain ⟨-, hbusy⟩ := runsBusy_beginWrite (s := s.raiseBusy) rfl hs.notInSetup_raiseBusy a v
  exact ⟨hs.seqStep_iterate_writereg_end a v, hbusy⟩

/-- The bring-up of `p` from a block that is busy with nothing yet. -/
theorem runsBusy_latchPanel (p : Word16) {s : State} (hbusy : s.busy = true) :
    RunsBusy (158 * s.params.panelTable.length) (loadEntry (latchPanel p s)) (returnToHost (bringUp p s)) :=
  runsBusy_loadEntry s.params.panelTable (s := latchPanel p s) hbusy rfl rfl

theorem start_setdisplay_of_due {s : State} (h : setupDue s = true) (b c : Byte) :
    start (.setdisplay b c) s = inSetup (packDisplay b c) 0 s.raiseBusy := if_pos h

theorem start_setdisplay_of_not_due {s : State} (h : setupDue s = false) (b c : Byte) :
    start (.setdisplay b c) s = loadEntry (latchPanel (packDisplay b c) s.raiseBusy) :=
  if_neg (by rw [show setupDue s.raiseBusy = setupDue s from rfl, h]; exact Bool.false_ne_true)

/-- Settles O7: both ways of beginning latch the packed word; the first entry leaves it in the latch. -/
theorem displayBytesArePacked : Obligations.DisplayBytesArePacked := by
  intro b c s hbusy htable
  refine ⟨?_, packDisplay_eq_append b c, rfl⟩
  rw [← packDisplay_eq_append]
  cases hdue : setupDue s with
  | true => rw [start_setdisplay_of_due hdue]; rfl
  | false =>
    obtain ⟨e, es, hes⟩ := List.exists_cons_of_ne_nil htable
    have hentry : (latchPanel (packDisplay b c) s.raiseBusy).params.panelTable[
        (latchPanel (packDisplay b c) s.raiseBusy).tix]? = some e := by
      rw [latchPanel_params, latchPanel_tix, State.raiseBusy_params, hes]; rfl
    rw [start_setdisplay_of_not_due hdue, loadEntry_of_entry hentry]
    rfl

theorem runsBusy_setdisplay (b c : Byte) (s : State) :
    RunsBusy (microSteps (.setdisplay b c) s) (start (.setdisplay b c) s)
      (issued (.setdisplay b c) s) := by
  obtain ⟨-, -, hbusy, -, hparams, -⟩ := displayReady_rest s.raiseBusy
  have hpanel := runsBusy_latchPanel (packDisplay b c) (s := displayReady s.raiseBusy) hbusy
  rw [hparams, State.raiseBusy_params] at hpanel
  cases hdue : setupDue s with
  | true =>
    have hdue' : setupDue s.raiseBusy = true := hdue
    have hsetup := runsBusy_inSetup (packDisplay b c) (s := s.raiseBusy) rfl
    rw [← displayReady_of_due hdue'] at hsetup
    rw [start_setdisplay_of_due hdue, microSteps, if_pos hdue, Nat.add_comm]
    exact hsetup.trans hpanel
  | false =>
    have hdue' : setupDue s.raiseBusy = false := hdue
    have hsteps : microSteps (.setdisplay b c) s = 158 * s.params.panelTable.length := by
      simp only [microSteps, hdue, Bool.false_eq_true, if_false, Nat.zero_add]
    rw [start_setdisplay_of_not_due hdue, hsteps]
    nth_rw 1 [← displayReady_of_not_due hdue']
    exact hpanel

/-- Settles O51: each operation runs busy from its start to the state that `exec` answers. -/
theorem sequencerAgreesWithExec : Obligations.SequencerAgreesWithExec := by
  intro i s hs
  have ⟨hbusy, _⟩ := hs
  have hrun : RunsBusy (microSteps i s) (start i s) (issued i s) := by
    cases i with
    | exportLine l => exact RunsBusy.refl _
    | setdirIn l => exact RunsBusy.refl _
    | setdirOut l => exact RunsBusy.refl _
    | wrlevel0 l => exact RunsBusy.refl _
    | wrlevel1 l => exact RunsBusy.refl _
    | transmit w => exact hs.runsBusy_transmit w
    | writereg a v => exact hs.runsBusy_writereg a v
    | initpanel p => exact runsBusy_latchPanel p (s := s.raiseBusy) rfl
    | setdisplay b c => exact runsBusy_setdisplay b c s
    | frameAddr a => rw [issued_frameAddr]; exact hs.runsBusy_transmit _
    | frameData v => rw [issued_frameData]; exact hs.runsBusy_transmit _
    | frameRaw w => rw [issued_frameRaw]; exact hs.runsBusy_transmit w
  obtain ⟨hend, hbusyAll⟩ := hrun
  exact ⟨by rw [hend, exec_ready hbusy], hbusyAll⟩

end Sys2Proof.Machine

/-! PROOFS. What the operations that transmit leave unchanged and how many attempts they make: the wire
words (R45, R46), TRANSMIT (R75), WRITEREG (R44, R89) and the bring-ups (R96, R99). -/

namespace Sys2Proof.Machine

/-! ### Frames -/

/-- What an operation that only transmits keeps at the lines, and the answers it takes. -/
theorem issued_keeps_lines {i : Instr} {s : State} {ms : List MicroAction}
    (h : scriptOf s.params i = some ms) :
    (issued i s).owned = s.owned ∧ (issued i s).dir = s.dir ∧ (issued i s).draws = s.draws ∧
    (issued i s).drawn = s.drawn ∧ (issued i s).answers = s.answers.drop (attemptsIn ms) ∧
    (issued i s).asked = s.asked + attemptsIn ms := by
  obtain ⟨-, howned, hdir, -, -, -, -, -, hdraws, hdrawn⟩ := issued_driver h
  obtain ⟨-, -, -, -, hanswers, hasked⟩ := issued_logs h
  have hsame := runActions_same ms s
  exact ⟨howned.trans hsame.owned, hdir.trans hsame.dir, hdraws.trans hsame.draws,
    hdrawn.trans hsame.drawn, hanswers, hasked⟩

/-- The wire words are {0x70, a} and {0x72, v} (R46). -/
theorem addrFrame_eq_append (a : Word16) : addrFrame a = 0x70#8 ++ a := by
  obtain ⟨h, -⟩ := framesAreConcatenations a
  exact h

theorem dataFrame_eq_append (v : Word16) : dataFrame v = 0x72#8 ++ v := by
  obtain ⟨-, -, h, -⟩ := framesAreConcatenations v
  exact h

/-- A bare TRANSMIT performs its script. -/
theorem issued_transmit_actions (w : Word24) (s : State) :
    (eventsSince s (issued (.transmit w) s)).map Event.action = (transmitScript w).map some :=
  (SameDriver.performed (issued_driver (i := .transmit w) (s := s) rfl)).2

/-- Settles O17: each kind of wire word is issued as the transmission of its word (log 10). -/
theorem framesRunAsTransmissions : Obligations.FramesRunAsTransmissions := by
  intro s hbusy
  refine ⟨fun a => ⟨_, exec_ready hbusy _, ?_⟩, fun v => ⟨_, exec_ready hbusy _, ?_⟩,
    fun w => ⟨_, exec_ready hbusy _, ?_⟩⟩
  · rw [← addrFrame_eq_append, issued_frameAddr]
    exact ⟨exec_ready hbusy _, issued_transmit_actions _ s⟩
  · rw [← dataFrame_eq_append, issued_frameData]
    exact ⟨exec_ready hbusy _, issued_transmit_actions _ s⟩
  · rw [issued_frameRaw]
    exact ⟨exec_ready hbusy _, issued_transmit_actions w s⟩

/-- What a bare TRANSMIT keeps above the line driver. -/
theorem issued_transmit_rest (w : Word24) (s : State) :
    let t := issued (.transmit w) s
    t.upc = none ∧ t.a = s.a ∧ t.v = s.v ∧ t.phase = s.phase ∧ t.p = s.p ∧ t.tix = s.tix ∧
      t.initDone = s.initDone ∧ t.client = s.client ∧ t.params = s.params ∧ t.port = s.port := by
  obtain ⟨hkeep, hupc, ha, hv, hphase, -, -⟩ := sendWord_rest w s.raiseBusy
  rw [issued, bodyOf]
  generalize sendWord w s.raiseBusy = t at *
  exact ⟨hupc, ha, hv, hphase, hkeep.p, hkeep.tix, hkeep.initDone, hkeep.client, hkeep.params, hkeep.port⟩

/-- What WRITEREG keeps above the line driver. -/
theorem issued_writereg_rest (a v : Word16) (s : State) :
    let t := issued (.writereg a v) s
    t.upc = none ∧ t.phase = .none ∧ t.p = s.p ∧ t.tix = s.tix ∧ t.initDone = s.initDone ∧
      t.client = s.client ∧ t.params = s.params ∧ t.port = s.port := by
  obtain ⟨hkeep, hupc, hphase, -, -⟩ := writeReg_rest a v s.raiseBusy
  rw [issued, bodyOf]
  generalize writeReg a v s.raiseBusy = t at *
  exact ⟨hupc, hphase, hkeep.p, hkeep.tix, hkeep.initDone, hkeep.client, hkeep.params, hkeep.port⟩

/-- Settles O19: each of the four operations is issued as a transmission of some word. -/
theorem transmitFrame : Obligations.TransmitFrame := by
  intro w i s hbusy hi
  obtain ⟨x, hx⟩ : ∃ x, issued i s = issued (.transmit x) s := by
    rcases hi with rfl | rfl | ⟨a, rfl⟩ | ⟨v, rfl⟩
    · exact ⟨w, rfl⟩
    · exact ⟨w, issued_frameRaw w s⟩
    · exact ⟨addrFrame a, issued_frameAddr a s⟩
    · exact ⟨dataFrame v, issued_frameData v s⟩
  have htarget := issued_transmit_target x s
  obtain ⟨howned, hdir, hdraws, hdrawn, hanswers, hasked⟩ :=
    issued_keeps_lines (i := .transmit x) (s := s) rfl
  rw [attemptsIn_transmitScript] at hanswers hasked
  obtain ⟨hupc, ha, hv, hphase, hp, htix, hinit, hclient, hparams, hport⟩ := issued_transmit_rest x s
  rw [exec_ready hbusy, hx]
  exact ⟨_, rfl, howned, hdir, hupc, ha, hv, hphase, hp, htix, hinit, returnToHost_busy _, hclient,
    hparams, hdraws, hdrawn, hport, hanswers, hasked,
    fun r => by rw [htarget]⟩

/-- Settles O32: the script keeps the lines' registers, the framer's return records the write. -/
theorem writeregFrame : Obligations.WriteregFrame := by
  intro a v s hbusy hwf
  obtain ⟨howned, hdir, hdraws, hdrawn, hanswers, hasked⟩ :=
    issued_keeps_lines (i := .writereg a v) (s := s) rfl
  rw [attemptsIn_writeScript] at hanswers hasked
  obtain ⟨hupc, hphase, hp, htix, hinit, hclient, hparams, hport⟩ := issued_writereg_rest a v s
  have htarget := issued_writereg_target a v s
  refine ⟨_, exec_ready hbusy _, howned, hdir, hupc, hphase, hp, htix, hinit, returnToHost_busy _,
    hclient, hparams, hdraws, hdrawn, hport, hanswers, hasked, ?_⟩
  rw [htarget]
  exact ⟨Memory.write_wf hwf a.isLt v, Memory.read_write_same _ _ v,
    fun b hb => Memory.read_write_other _ v hb⟩

/-- Two bare TRANSMITs, one after the other, run their scripts one after the other. -/
theorem issued_transmit_transmit_driver (w w' : Word24) (s : State) :
    SameDriver (issued (.transmit w') (issued (.transmit w) s))
      (runActions (transmitScript w ++ transmitScript w') s) := by
  have hfirst : SameDriver (issued (.transmit w) s) (runActions (transmitScript w) s) := issued_driver rfl
  have hsecond : SameDriver (issued (.transmit w') (issued (.transmit w) s))
      (runActions (transmitScript w') (issued (.transmit w) s)) := issued_driver rfl
  rw [runActions_append]
  exact hsecond.trans (runActions_congr hfirst _)

/-- Settles O29: both run the scripts of the two frames, one after the other. -/
theorem writeregLooksLikeTwoTransmits : Obligations.WriteregLooksLikeTwoTransmits := by
  refine ⟨fun a v s hbusy => ?_, fun w s hbusy _ _ => ⟨_, exec_ready hbusy _⟩⟩
  rw [← addrFrame_eq_append, ← dataFrame_eq_append]
  exact ⟨_, _, exec_ready hbusy _,
    (execAll_cons_of_next (exec_ready hbusy _) _).trans (execAll_singleton (returnToHost_busy _) _),
    (issued_writereg_driver a v s).trans (issued_transmit_transmit_driver _ _ s).symm⟩

/-- Register writes to other indices leave an index alone. -/
theorem entriesTarget_read_other (es : List PanelEntry) (p : Word16) (m : Memory) {r : Nat}
    (h : ∀ e ∈ es, e.reg.toNat ≠ r) : (entriesTarget es p m).read r = m.read r := by
  induction es generalizing m with
  | nil => rfl
  | cons e es ih =>
    rw [entriesTarget_cons, ih _ fun e' he' => h e' (List.mem_cons_of_mem e he')]
    exact Memory.read_write_other m _ (h e List.mem_cons_self).symm

/-- Settles O41: INITPANEL only transmits; where set-up is not due, so does SETDISPLAY. -/
theorem bringUpFrame : Obligations.BringUpFrame := by
  intro s t hs
  have ⟨hbusy, _⟩ := hs
  refine ⟨fun p ht => ?_, fun b c ht => ?_⟩
  · obtain rfl : issued (.initpanel p) s = t := by
      rw [exec_ready hbusy] at ht; exact Host.Outcome.next.inj ht
    obtain ⟨howned, hdir, hdraws, hdrawn, -, -⟩ := issued_keeps_lines (i := .initpanel p) (s := s) rfl
    obtain ⟨htarget, hinit, hparams, hport⟩ := issued_initpanel_rest p s
    exact ⟨howned, hdir, hinit, hdraws, hdrawn, hparams, hport, hs.issued_idle _,
      fun r hr => by rw [htarget]; exact entriesTarget_read_other _ p _ hr⟩
  · obtain rfl : issued (.setdisplay b c) s = t := by
      rw [exec_ready hbusy] at ht; exact Host.Outcome.next.inj ht
    obtain ⟨htarget, -, hparams, hport⟩ := issued_setdisplay_rest b c s
    refine ⟨fun hdue => ?_, hparams, hport, hs.issued_idle _,
      fun r hr => by rw [htarget]; exact entriesTarget_read_other _ _ _ hr⟩
    obtain ⟨-, howned, hdir, -, -, -, -, -, hdraws, hdrawn⟩ := issued_setdisplay b c s
    rw [displayReady_of_not_due hdue] at howned hdir hdraws hdrawn
    have hsame := runActions_same (tableScript s.params (packDisplay b c)) s
    exact ⟨howned.trans hsame.owned, hdir.trans hsame.dir, hdraws.trans hsame.draws,
      hdrawn.trans hsame.drawn⟩

/-! ### The caller's word (R95, R96) -/

/-- An entry that is not marked writes its constant, whatever the caller's word. -/
theorem entryValue_of_not_packed {e : PanelEntry} (h : e.isPacked = false) (p p' : Word16) :
    entryValue e.value p = entryValue e.value p' := by
  unfold PanelEntry.isPacked at h
  split at h
  · cases h
  · next x hx => rw [hx]; rfl

theorem entryWrites_of_no_packed {es : List PanelEntry} (h : es.countP PanelEntry.isPacked = 0)
    (p p' : Word16) : entryWrites es p = entryWrites es p' :=
  List.map_congr_left fun e he => by
    have hconst : e.isPacked = false := by simpa using List.countP_eq_zero.1 h e he
    rw [entryValue_of_not_packed hconst p p']

/-- A table with exactly one marked entry is that entry between entries that are not marked. -/
theorem exists_packed_entry {t : PanelTable} (h : tablePacked t = true) :
    ∃ xs r ys, t = xs ++ ⟨r, .packed⟩ :: ys ∧ xs.countP PanelEntry.isPacked = 0 ∧
      ys.countP PanelEntry.isPacked = 0 := by
  have hone : t.countP PanelEntry.isPacked = 1 := by simpa [tablePacked] using h
  obtain ⟨⟨r, value⟩, he, hpacked⟩ := List.one_le_countP_iff.1 hone.ge
  obtain ⟨xs, ys, rfl⟩ := List.append_of_mem he
  rw [List.countP_append, List.countP_cons_of_pos hpacked] at hone
  cases value with
  | const x => cases hpacked
  | packed => exact ⟨xs, r, ys, rfl, by omega, by omega⟩

/-- Settles O34: the marked entry's write holds the word; the writes before and after it do not. -/
theorem callerWordGoesInOnePlace : Obligations.CallerWordGoesInOnePlace := by
  intro q hq
  obtain ⟨xs, r, ys, htable, hxs, hys⟩ := exists_packed_entry hq
  have hwrites : ∀ p, tableWrites q p = entryWrites xs p ++ .writereg r p :: entryWrites ys p := fun p => by
    rw [tableWrites_eq, htable, entryWrites, List.map_append]; rfl
  have hlength : ∀ p, (entryWrites xs p).length = xs.length := fun p => List.length_map ..
  refine ⟨xs.length, r, by rw [htable, List.length_append]; simp, fun p => ⟨?_, fun j hj p' => ?_⟩⟩
  · rw [hwrites, List.getElem?_append_right (by rw [hlength]), hlength, Nat.sub_self]; rfl
  · rw [hwrites, hwrites, entryWrites_of_no_packed hxs p p', entryWrites_of_no_packed hys p p']
    rcases Nat.lt_or_gt_of_ne hj with hlt | hgt
    · rw [List.getElem?_append_left (by rwa [hlength]), List.getElem?_append_left (by rwa [hlength])]
    · rw [List.getElem?_append_right (by rw [hlength]; omega),
        List.getElem?_append_right (by rw [hlength]; omega), hlength]
      obtain ⟨d, hd⟩ : ∃ d, j - xs.length = d + 1 := ⟨j - xs.length - 1, by omega⟩
      rw [hd, List.getElem?_cons_succ, List.getElem?_cons_succ]

/-! ### Attempts, counted (R75, R89, R99) -/

/-- The levels that a list of actions writes on a line, in order. -/
def writesIn (l : Line) (ms : List MicroAction) : List Level :=
  ms.filterMap fun
    | .write l' b => if l' = l then some b else none
    | .delay => none

/-- The writes among the events of a list of actions are its own, whatever became of them. -/
theorem writesOn_actionEvents (l : Line) (s : State) (k : Nat) (ms : List MicroAction) :
    writesOn l (actionEvents s k ms) = writesIn l ms := by
  induction ms generalizing k with
  | nil => rfl
  | cons m ms ih =>
    cases m with
    | delay => exact ih k
    | write l' b =>
      by_cases h : l' = l <;> simpa [actionEvents, writesOn, writesIn, h] using ih (k + 1)

theorem delaysIn_actionEvents (s : State) (k : Nat) (ms : List MicroAction) :
    delaysIn (actionEvents s k ms) = ms.count .delay := by
  induction ms generalizing k with
  | nil => rfl
  | cons m ms ih =>
    cases m with
    | delay => simpa [actionEvents, delaysIn] using ih k
    | write l b => simpa [actionEvents, delaysIn] using ih (k + 1)

theorem writesIn_append (l : Line) (ms ns : List MicroAction) :
    writesIn l (ms ++ ns) = writesIn l ms ++ writesIn l ns := List.filterMap_append

/-- How many events a list of actions leaves, in all, on each line, and delays. -/
structure Counts (ms : List MicroAction) (total cs clk data delays : Nat) : Prop where
  total : ms.length = total
  cs : (writesIn .cs ms).length = cs
  clk : (writesIn .clk ms).length = clk
  data : (writesIn .data ms).length = data
  delays : ms.count .delay = delays

theorem Counts.append {ms ns : List MicroAction} {n n' a a' b b' c c' d d' : Nat}
    (h : Counts ms n a b c d) (k : Counts ns n' a' b' c' d') :
    Counts (ms ++ ns) (n + n') (a + a') (b + b') (c + c') (d + d') where
  total := by rw [List.length_append, h.total, k.total]
  cs := by rw [writesIn_append, List.length_append, h.cs, k.cs]
  clk := by rw [writesIn_append, List.length_append, h.clk, k.clk]
  data := by rw [writesIn_append, List.length_append, h.data, k.data]
  delays := by rw [List.count_append, h.delays, k.delays]

/-- R75. -/
theorem counts_transmitScript (w : Word24) : Counts (transmitScript w) 79 2 50 26 1 :=
  ⟨rfl, rfl, rfl, rfl, rfl⟩

theorem counts_writeScript (a v : Word16) : Counts (writeScript a v) 158 4 100 52 2 :=
  (counts_transmitScript _).append (counts_transmitScript _)

theorem counts_entriesScript (es : List PanelEntry) (p : Word16) :
    Counts (entriesScript es p) (158 * es.length) (4 * es.length) (100 * es.length) (52 * es.length)
      (2 * es.length) := by
  induction es with
  | nil => exact ⟨rfl, rfl, rfl, rfl, rfl⟩
  | cons e es ih =>
    have h := (counts_writeScript e.reg (entryValue e.value p)).append ih
    rw [← entriesScript_cons] at h
    simp only [List.length_cons, Nat.mul_succ]
    simpa only [Nat.add_comm] using h

/-- The events of an operation that only transmits, counted by its script. -/
theorem issued_counts {i : Instr} {s : State} {ms : List MicroAction} {n a b c d : Nat}
    (h : scriptOf s.params i = some ms) (hc : Counts ms n a b c d) :
    (eventsSince s (issued i s)).length = n ∧
    (writesOn .cs (eventsSince s (issued i s))).length = a ∧
    (writesOn .clk (eventsSince s (issued i s))).length = b ∧
    (writesOn .data (eventsSince s (issued i s))).length = c ∧
    delaysIn (eventsSince s (issued i s)) = d := by
  obtain ⟨hevents, -, -⟩ := issued_since h
  rw [hevents, actionEvents_length, writesOn_actionEvents, writesOn_actionEvents, writesOn_actionEvents,
    delaysIn_actionEvents]
  exact ⟨hc.total, hc.cs, hc.clk, hc.data, hc.delays⟩

/-- Settles O18: the script's counts, and its clock writes by level. -/
theorem transmitAttemptCounts : Obligations.TransmitAttemptCounts := by
  intro w s hbusy
  have hscript : scriptOf s.params (.transmit w) = some (transmitScript w) := rfl
  obtain ⟨htotal, hcs, hclk, hdata, hdelays⟩ := issued_counts hscript (counts_transmitScript w)
  obtain ⟨hevents, -, -⟩ := issued_since hscript
  refine ⟨_, exec_ready hbusy _, htotal, hcs, hclk, hdata, hdelays, ?_⟩
  rw [hevents, writesOn_actionEvents]
  exact ⟨rfl, rfl⟩

/-- Settles O31: the script's counts, its chip-select writes, and its actions where the frames meet. -/
theorem writeregAttemptCounts : Obligations.WriteregAttemptCounts := by
  intro a v s hbusy
  have hscript : scriptOf s.params (.writereg a v) = some (writeScript a v) := rfl
  obtain ⟨htotal, hcs, hclk, hdata, hdelays⟩ := issued_counts hscript (counts_writeScript a v)
  obtain ⟨hevents, -, -⟩ := issued_since hscript
  refine ⟨_, exec_ready hbusy _, htotal, hcs, hclk, hdata, hdelays, ?_⟩
  rw [hevents, writesOn_actionEvents, List.map_take, List.map_drop, actionEvents_action]
  exact ⟨rfl, rfl⟩

/-- Line set-up of some lines leaves two events for each. -/
theorem setupLines_trace_length (ls : List Line) (s : State) :
    (setupLines ls s).trace.length = s.trace.length + 2 * ls.length := by
  induction ls generalizing s with
  | nil => rfl
  | cons l ls ih =>
    obtain ⟨e, -, hexport, -⟩ := lineExport_oneAttempt l s
    obtain ⟨e', -, hdir, -⟩ := lineSetDir_oneAttempt l .output (lineExport l s)
    have htwo : (setupLine l s).trace.length = s.trace.length + 2 := by
      rw [setupLine, hdir, hexport]; simp
    calc
      (setupLines (l :: ls) s).trace.length = (setupLine l s).trace.length + 2 * ls.length := ih _
      _ = s.trace.length + 2 * (l :: ls).length := by rw [htwo, List.length_cons]; omega

theorem displayReady_trace_length (s : State) :
    (displayReady s).trace.length = s.trace.length + if setupDue s then 6 else 0 := by
  cases hdue : setupDue s with
  | true => rw [displayReady_of_due hdue]; exact setupLines_trace_length setupOrder s
  | false => rw [displayReady_of_not_due hdue]; rfl

/-- Settles O37: INITPANEL by its script; SETDISPLAY by the events of line set-up and the script. -/
theorem bringUpCounts : Obligations.BringUpCounts := by
  intro p b c s hbusy n
  have hscript : scriptOf s.params (.initpanel p) = some (tableScript s.params p) := rfl
  refine ⟨⟨_, exec_ready hbusy _, issued_counts hscript (counts_entriesScript _ p)⟩,
    _, exec_ready hbusy _, ?_⟩
  obtain ⟨-, -, -, htrace, -⟩ := issued_setdisplay b c s
  obtain ⟨hrun, -⟩ := runActions_logs (Continues.refl (displayReady s))
    (tableScript s.params (packDisplay b c))
  rw [eventsSince, List.length_drop, htrace, hrun, List.length_append, actionEvents_length, tableScript,
    entriesScript_length, displayReady_trace_length, Nat.add_assoc, Nat.add_sub_cancel_left]

end Sys2Proof.Machine

/-! PROOFS. The wire as the observer of R76 sees it: an observer that watches a list of actions, what it
sees of each stretch of a transmission, and so of a transmission, a register write and a bring-up with
every write effective (R77, R91, R99). -/

namespace Sys2Proof.Machine

/-! ### An observer (R76) -/

/-- The observer of R76 after part of a level history: the levels it saw last, the bits of the window so
far, and all bits sampled and frames seen. -/
structure Observer where
  level : PerLine Level
  window : List Level
  bits : List Level
  frames : List (List Level)

/-- The observer sees the next triple of levels: chip-select falling empties the window, a sampled edge
adds a bit, chip-select rising closes the window. -/
def Observer.see (o : Observer) (h : PerLine Level) : Observer :=
  let edge := sampledEdge o.level h
  let opened := if o.level.cs && !h.cs then [] else o.window
  let window := if edge then opened ++ [h.data] else opened
  let closed := !o.level.cs && h.cs
  { level := h
    window := if closed then [] else window
    bits := if edge then o.bits ++ [h.data] else o.bits
    frames := if closed then o.frames ++ [window] else o.frames }

/-- The observer sees the levels after each of some actions, the environment of `s` answering from attempt
`k` on. -/
def Observer.watch (s : State) : Nat → Observer → List MicroAction → Observer
  | _, o, [] => o
  | k, o, .write l b :: ms =>
    watch s (k + 1) (o.see (if s.effective l k then o.level.set l b else o.level)) ms
  | k, o, .delay :: ms => watch s k (o.see o.level) ms

/-- What the observer has seen after a history is what it had seen before and what the history shows. -/
theorem Observer.foldl_see (o : Observer) (hs : List (PerLine Level)) :
    (hs.foldl see o).bits = o.bits ++ sampleWire (o.level :: hs) ∧
    (hs.foldl see o).frames = o.frames ++ framesFrom o.window (o.level :: hs) := by
  induction hs generalizing o with
  | nil => simp [sampleWire, framesFrom]
  | cons h hs ih =>
    obtain ⟨hbits, hframes⟩ := ih (o.see h)
    rw [List.foldl_cons, hbits, hframes, sampleWire, framesFrom]
    refine ⟨?_, ?_⟩
    · rw [← List.append_assoc]
      cases hedge : sampledEdge o.level h <;> simp [see, hedge]
    · cases hclosed : (!o.level.cs && h.cs) <;> simp [see, hclosed]

theorem Observer.watch_eq_foldl (s : State) (k : Nat) (o : Observer) (ms : List MicroAction) :
    watch s k o ms = (actionLevels s k o.level ms).foldl see o := by
  induction ms generalizing k o with
  | nil => rfl
  | cons m ms ih => cases m <;> exact ih ..

theorem Observer.watch_append (s : State) (k : Nat) (o : Observer) (ms ns : List MicroAction) :
    watch s k o (ms ++ ns) = watch s (k + attemptsIn ms) (watch s k o ms) ns := by
  induction ms generalizing k o with
  | nil => rfl
  | cons m ms ih =>
    cases m with
    | write l b => rw [attemptsIn_write, Nat.add_comm (attemptsIn ms), ← Nat.add_assoc]; exact ih ..
    | delay => exact ih ..

/-- An observer that begins to watch at levels `h`. -/
def Observer.atLevels (h : PerLine Level) : Observer := ⟨h, [], [], []⟩

/-- The level history since `s` of a state that is at the line driver what some actions leave. -/
theorem SameDriver.historySince_eq {s t : State} {ms : List MicroAction}
    (h : SameDriver t (runActions ms s)) : historySince s t = s.level :: actionLevels s 0 s.level ms := by
  obtain ⟨-, -, -, -, -, hsame, -⟩ := h
  obtain ⟨-, -, hhistory, -⟩ := runActions_logs (Continues.refl s) ms
  rw [historySince, hsame, hhistory, List.drop_left]

/-- What is on the wire since `s` is what an observer of the actions since has seen. -/
theorem SameDriver.wire_eq {s t : State} {ms : List MicroAction} {o : Observer}
    (h : SameDriver t (runActions ms s)) (ho : (Observer.atLevels s.level).watch s 0 ms = o) :
    sampleWire (historySince s t) = o.bits ∧ wireFrames (historySince s t) = o.frames := by
  obtain ⟨hbits, hframes⟩ := (Observer.atLevels s.level).foldl_see (actionLevels s 0 s.level ms)
  have hwatch := (Observer.atLevels s.level).watch_eq_foldl s 0 ms
  rw [← ho, hwatch, h.historySince_eq]
  exact ⟨hbits.symm, hframes.symm⟩

theorem perm_three_cases {α : Type} {a b c : α} {xs : List α} (h : xs.Perm [a, b, c]) :
    xs = [a, b, c] ∨ xs = [b, a, c] ∨ xs = [b, c, a] ∨ xs = [a, c, b] ∨ xs = [c, a, b] ∨ xs = [c, b, a] := by
  simpa using List.mem_permutations'.2 h

/-! ### Effective attempts (R22) -/

/-- The environment and the lines make each of the `n` attempts from attempt `k` on effective. -/
def EffectiveFrom (s : State) (k n : Nat) : Prop := ∀ l j, k ≤ j → j < k + n → s.effective l j = true

theorem EffectiveFrom.sub {s : State} {k n k' n' : Nat} (h : EffectiveFrom s k n) (hk : k ≤ k')
    (hn : k' + n' ≤ k + n) : EffectiveFrom s k' n' := fun l j hj hj' => h l j (by omega) (by omega)

theorem EffectiveFrom.head {s : State} {k n : Nat} (h : EffectiveFrom s k (n + 1)) (l : Line) :
    s.effective l k = true := h l k (Nat.le_refl k) (by omega)

theorem EffectiveFrom.tail {s : State} {k n : Nat} (h : EffectiveFrom s k (n + 1)) :
    EffectiveFrom s (k + 1) n := h.sub (by omega) (by omega)

/-- On ready lines the attempts that the environment answers with success are effective (R122). -/
theorem LinesReady.effectiveFrom {s : State} (h : LinesReady s) {k n : Nat}
    (hok : ∀ j, k ≤ j → j < k + n → s.okAt j = true) : EffectiveFrom s k n :=
  fun l j hj hj' => (s.effective_of_ready h l j).trans (hok j hj hj')

theorem AllEff.effectiveFrom {s : State} {n : Nat} (h : AllEff s n) : EffectiveFrom s 0 n := by
  obtain ⟨hready, hok⟩ := h
  exact hready.effectiveFrom fun j _ hj => hok j (by omega)

/-! ### What the observer sees of one change of the lines -/

namespace Observer

/-- The observer sees line `l` driven to `b`. -/
def driven (o : Observer) (l : Line) (b : Level) : Observer := o.see (o.level.set l b)

section
variable (cs clk data : Level) (window bits : List Level) (frames : List (List Level))

/-- DATA alone is never sampled. -/
@[simp] theorem driven_data (b : Level) :
    driven ⟨⟨cs, clk, data⟩, window, bits, frames⟩ .data b = ⟨⟨cs, clk, b⟩, window, bits, frames⟩ := by
  cases cs <;> cases clk <;> rfl

/-- A falling clock samples nothing. -/
@[simp] theorem driven_clk_false :
    driven ⟨⟨cs, clk, data⟩, window, bits, frames⟩ .clk false = ⟨⟨cs, false, data⟩, window, bits, frames⟩ := by
  cases cs <;> cases clk <;> rfl

/-- The clock rising while chip-select is low samples DATA. -/
@[simp] theorem driven_clk_rise :
    driven ⟨⟨false, false, data⟩, window, bits, frames⟩ .clk true =
      ⟨⟨false, true, data⟩, window ++ [data], bits ++ [data], frames⟩ := rfl

/-- A clock that is high already does not rise. -/
@[simp] theorem driven_clk_stays :
    driven ⟨⟨cs, true, data⟩, window, bits, frames⟩ .clk true = ⟨⟨cs, true, data⟩, window, bits, frames⟩ := by
  cases cs <;> rfl

/-- Chip-select falling opens an empty window. -/
@[simp] theorem driven_cs_false :
    driven ⟨⟨cs, clk, data⟩, window, bits, frames⟩ .cs false =
      ⟨⟨false, clk, data⟩, if cs then [] else window, bits, frames⟩ := by
  cases cs <;> cases clk <;> rfl

/-- Chip-select rising closes the window. -/
@[simp] theorem driven_cs_rise :
    driven ⟨⟨false, clk, data⟩, window, bits, frames⟩ .cs true =
      ⟨⟨true, clk, data⟩, [], bits, frames ++ [window]⟩ := by
  cases clk <;> rfl

end

/-! ### What it sees of one action -/

variable {s : State} {k : Nat}

section
variable (o : Observer) {l : Line} {b : Level} (ms : List MicroAction)

theorem watch_nil : o.watch s k [] = o := rfl

/-- Levels that stay show nothing. -/
theorem see_level : o.see o.level = o := by
  obtain ⟨⟨cs, clk, data⟩, window, bits, frames⟩ := o
  cases cs <;> cases clk <;> rfl

theorem watch_write_effective (h : s.effective l k = true) :
    o.watch s k (.write l b :: ms) = (o.driven l b).watch s (k + 1) ms := by
  rw [watch, if_pos h, driven]

theorem watch_write_dropped (h : s.effective l k = false) :
    o.watch s k (.write l b :: ms) = o.watch s (k + 1) ms := by
  rw [watch, h, if_neg Bool.false_ne_true, see_level]

theorem watch_delay : o.watch s k (.delay :: ms) = o.watch s k ms := by
  rw [watch, see_level]

end

/-! ### What it sees of the stretches of a transmission (R71) -/

/-- Step 1, its writes in any order: the lines go low, and chip-select opens a window if it was high. -/
theorem watch_opening (o : Observer) (h : EffectiveFrom s k 3) {ms : List MicroAction}
    (hms : ms.Perm openingWrites) :
    o.watch s k ms =
      ⟨⟨false, false, false⟩, if o.level.cs then [] else o.window, o.bits, o.frames⟩ := by
  have h0 := h.head
  have h1 := h.tail.head
  have h2 := h.tail.tail.head
  obtain ⟨⟨cs, clk, data⟩, window, bits, frames⟩ := o
  rcases perm_three_cases hms with rfl | rfl | rfl | rfl | rfl | rfl <;>
    simp only [watch_write_effective, h0, h1, h2, driven_data, driven_clk_false, driven_cs_false, watch_nil]

/-- The closing writes, in any order, while chip-select is low: the window is closed. -/
theorem watch_closing {o : Observer} (hcs : o.level.cs = false) (h : EffectiveFrom s k 3)
    {ms : List MicroAction} (hms : ms.Perm closingWrites) :
    o.watch s k ms = ⟨⟨true, false, false⟩, [], o.bits, o.frames ++ [o.window]⟩ := by
  have h0 := h.head
  have h1 := h.tail.head
  have h2 := h.tail.tail.head
  obtain ⟨⟨cs, clk, data⟩, window, bits, frames⟩ := o
  obtain rfl : cs = false := hcs
  rcases perm_three_cases hms with rfl | rfl | rfl | rfl | rfl | rfl <;>
    simp only [watch_write_effective, h0, h1, h2, driven_data, driven_clk_false, driven_cs_rise, watch_nil]

/-- The observer has sampled some bits, the last of them with the clock high. -/
def sampled (o : Observer) (bs : List Level) : Observer :=
  ⟨bs.getLast?.elim o.level (⟨false, true, ·⟩), o.window ++ bs, o.bits ++ bs, o.frames⟩

theorem sampled_nil (o : Observer) : o.sampled [] = o := by
  simp [sampled]

theorem sampled_cons (o : Observer) (b : Level) (bs : List Level) :
    o.sampled (b :: bs) = (o.sampled [b]).sampled bs := by
  cases h : bs.getLast? <;> simp [sampled, List.getLast?_cons, h]

theorem sampled_cs {o : Observer} (h : o.level.cs = false) (bs : List Level) :
    (o.sampled bs).level.cs = false := by
  cases hlast : bs.getLast? <;> simp [sampled, hlast, h]

/-- One bit of step 2: it is sampled. -/
theorem watch_bit {o : Observer} (hcs : o.level.cs = false) (h : EffectiveFrom s k 3) (w : Word24) (i : Nat) :
    o.watch s k (bitWrites w i) = o.sampled [w.getLsbD (23 - i)] := by
  have h0 := h.head
  have h1 := h.tail.head
  have h2 := h.tail.tail.head
  obtain ⟨⟨cs, clk, data⟩, window, bits, frames⟩ := o
  obtain rfl : cs = false := hcs
  simp only [bitWrites, watch_write_effective, h0, h1, h2, driven_data, driven_clk_false,
    driven_clk_rise, watch_nil]
  rfl

/-- The bits of `w` at some places of step 2. -/
def bitsAt (w : Word24) (is : List Nat) : List Level := is.map fun i => w.getLsbD (23 - i)

theorem attemptsIn_bitWrites (w : Word24) (i : Nat) : attemptsIn (bitWrites w i) = 3 := rfl

/-- Some bits of step 2: they are sampled, in order. -/
theorem watch_bits {o : Observer} (hcs : o.level.cs = false) (w : Word24) (is : List Nat)
    (h : EffectiveFrom s k (3 * is.length)) :
    o.watch s k (is.flatMap (bitWrites w)) = o.sampled (bitsAt w is) := by
  induction is generalizing o k with
  | nil => exact (sampled_nil o).symm
  | cons i is ih =>
    rw [List.length_cons] at h
    rw [List.flatMap_cons, watch_append, attemptsIn_bitWrites, watch_bit hcs (h.sub (by omega) (by omega)),
      ih (sampled_cs hcs _) (h.sub (by omega) (by omega)), ← sampled_cons]
    rfl

/-- Steps 1 and 2 of a transmission, the writes of step 1 in any order: the 24 bits are sampled, into the
window that is open or else one of their own. -/
theorem watch_sent (o : Observer) (h : EffectiveFrom s k 75) (w : Word24) {first : List MicroAction}
    (hfirst : first.Perm openingWrites) :
    attemptsIn (first ++ (List.range 24).flatMap (bitWrites w)) = 75 ∧
    o.watch s k (first ++ (List.range 24).flatMap (bitWrites w)) =
      sampled ⟨⟨false, false, false⟩, if o.level.cs then [] else o.window, o.bits, o.frames⟩ (bits24 w) := by
  have hthree : attemptsIn first = 3 := hfirst.countP_eq _
  have hbits : attemptsIn ((List.range 24).flatMap (bitWrites w)) = 72 := rfl
  refine ⟨by rw [attemptsIn_append, hthree, hbits], ?_⟩
  rw [watch_append, hthree, watch_opening o (h.sub (by omega) (by omega)) hfirst,
    watch_bits rfl w _ (h.sub (by omega) (by rw [List.length_range]))]
  rfl

/-- A whole transmission, the writes of steps 1 and 3 in any order: the window of its 24 bits is closed
(R77). -/
theorem watch_script (o : Observer) (h : EffectiveFrom s k 78) (w : Word24) {first last : List MicroAction}
    (hfirst : first.Perm openingWrites) (hlast : last.Perm closingWrites) :
    o.watch s k (first ++ (List.range 24).flatMap (bitWrites w) ++ .delay :: last) =
      ⟨⟨true, false, false⟩, [], o.bits ++ bits24 w,
        o.frames ++ [(if o.level.cs then [] else o.window) ++ bits24 w]⟩ := by
  obtain ⟨hcount, hsent⟩ := watch_sent o (h.sub (Nat.le_refl k) (by omega)) w hfirst
  rw [watch_append, hcount, hsent, watch_delay,
    watch_closing (sampled_cs rfl _) (h.sub (by omega) (by omega)) hlast]
  rfl

/-- The observer has seen some frames, and the wire is idle. -/
def framed (o : Observer) (fs : List (List Level)) : Observer :=
  ⟨⟨true, false, false⟩, [], o.bits ++ fs.flatten, o.frames ++ fs⟩

theorem framed_framed (o : Observer) (fs gs : List (List Level)) :
    (o.framed fs).framed gs = o.framed (fs ++ gs) := by
  simp [framed]

/-- With no bits pending, the window that step 1 leaves is empty, whether or not it is a new one. -/
theorem pending_nil {o : Observer} (ho : o.window = []) :
    (if o.level.cs = true then [] else o.window) = [] := by
  rw [ho, ite_self]

/-- A transmission with no window's bits pending: one frame. -/
theorem watch_transmitScript {o : Observer} (ho : o.window = []) (h : EffectiveFrom s k 78) (w : Word24) :
    o.watch s k (transmitScript w) = o.framed [bits24 w] := by
  rw [transmitScript, watch_script o h w (.refl _) (.refl _), pending_nil ho]
  simp [framed]

theorem watch_writeScript {o : Observer} (ho : o.window = []) (h : EffectiveFrom s k 156) (a v : Word16) :
    o.watch s k (writeScript a v) = o.framed [bits24 (addrFrame a), bits24 (dataFrame v)] := by
  rw [writeScript, watch_append, attemptsIn_transmitScript,
    watch_transmitScript ho (h.sub (by omega) (by omega)),
    watch_transmitScript rfl (h.sub (by omega) (by omega)), framed_framed]
  rfl

end Observer

end Sys2Proof.Machine

/-! PROOFS. What is on the wire: one frame for each transmission whose writes are all effective (R77, R91,
R99), and what one dropped write does to it (R80, R132). -/

namespace Sys2Proof.Machine

open Observer

/-! ### Every write effective -/

/-- What is on the wire since `s` after an operation that only transmits. -/
theorem issued_wire {i : Instr} {s : State} {ms : List MicroAction} {o : Observer}
    (h : scriptOf s.params i = some ms) (ho : (atLevels s.level).watch s 0 ms = o) :
    sampleWire (historySince s (issued i s)) = o.bits ∧ wireFrames (historySince s (issued i s)) = o.frames :=
  (issued_driver h).wire_eq ho

/-- Settles O20: whatever the levels, step 1 brings the lines low, step 2 samples the word, step 3 closes
the frame. -/
theorem transmitPutsWordOnWire : Obligations.TransmitPutsWordOnWire := by
  refine ⟨fun w s hbusy heff => ⟨_, exec_ready hbusy _, ?_⟩, fun w s first last heff hfirst hlast => ?_⟩
  · exact issued_wire rfl (watch_transmitScript rfl heff.effectiveFrom w)
  · have hseen := watch_script (atLevels s.level) heff.effectiveFrom w hfirst hlast
    rw [pending_nil rfl] at hseen
    exact (SameDriver.refl _).wire_eq hseen

/-- Settles O30: two transmissions, each with no window's bits pending. -/
theorem writeregPutsTwoFramesOnWire : Obligations.WriteregPutsTwoFramesOnWire := by
  intro a v s hbusy heff
  obtain ⟨-, haddr, -⟩ := framesAreConcatenations a
  obtain ⟨-, -, -, hdata⟩ := framesAreConcatenations v
  obtain ⟨-, hframes⟩ := issued_wire (i := .writereg a v) rfl
    (watch_writeScript (o := atLevels s.level) rfl heff.effectiveFrom a v)
  rw [← haddr, ← hdata]
  exact ⟨_, exec_ready hbusy _, hframes⟩

/-- The frames of some entries of the table (R99). -/
def entryFrames (es : List PanelEntry) (p : Word16) : List (List Level) :=
  es.flatMap fun e => [bits24 (addrFrame e.reg), bits24 (dataFrame (entryValue e.value p))]

theorem tableFrames_eq (q : Params) (p : Word16) : tableFrames q p = entryFrames q.panelTable p := by
  simp only [entryFrames, addrFrame_eq_append, dataFrame_eq_append]
  rfl

/-- The register writes of some entries: their frames, in order. -/
theorem watch_entriesScript {s : State} {k : Nat} {o : Observer} (es : List PanelEntry) (p : Word16)
    (ho : o.window = []) (h : EffectiveFrom s k (156 * es.length)) :
    (o.watch s k (entriesScript es p)).bits = o.bits ++ (entryFrames es p).flatten ∧
    (o.watch s k (entriesScript es p)).frames = o.frames ++ entryFrames es p := by
  induction es generalizing o k with
  | nil => exact ⟨(List.append_nil _).symm, (List.append_nil _).symm⟩
  | cons e es ih =>
    rw [List.length_cons] at h
    have hwrite := watch_writeScript ho (h.sub (Nat.le_refl k) (by omega)) e.reg (entryValue e.value p)
    obtain ⟨hbits, hframes⟩ := ih (k := k + 156)
      (o := o.framed [bits24 (addrFrame e.reg), bits24 (dataFrame (entryValue e.value p))]) rfl
      (h.sub (by omega) (by omega))
    rw [entriesScript_cons, watch_append, attemptsIn_writeScript, hwrite, hbits, hframes]
    simp [framed, entryFrames]

/-- Settles O38: the frames of the table's entries. -/
theorem initpanelFramesOnWire : Obligations.InitpanelFramesOnWire := by
  intro p s hbusy heff
  obtain ⟨-, hframes⟩ := watch_entriesScript (o := atLevels s.level) s.params.panelTable p rfl
    heff.effectiveFrom
  obtain ⟨-, hwire⟩ := issued_wire (i := .initpanel p) (s := s) rfl rfl
  refine ⟨_, exec_ready hbusy _, ?_⟩
  rw [hwire, tableFrames_eq]
  exact hframes

/-! ### One attempt fails (R80) -/

section
variable {s : State} {j n : Nat} (hready : LinesReady s) (hfail : OnlyFails s j n)
include hready hfail

theorem OnlyFails.effectiveFrom {k m : Nat} (hm : k + m ≤ n) (hj : j < k ∨ k + m ≤ j) :
    EffectiveFrom s k m := hready.effectiveFrom fun i hi hi' => by
  rw [hfail i (by omega), decide_eq_true_eq]
  omega

theorem OnlyFails.dropped (hj : j < n) (l : Line) : s.effective l j = false := by
  rw [s.effective_of_ready hready l j, hfail j hj]
  simp

end

/-- The places of step 2 after the bit at place `k`. -/
def laterBits (k : Nat) : List Nat := List.range' (k + 1) (23 - k)

theorem range_24_eq {k : Nat} (hk : k < 24) : List.range 24 = List.range k ++ k :: laterBits k := by
  have hsplit : List.range' 0 24 = List.range' 0 k ++ List.range' (0 + k) (24 - k) := by
    rw [List.range'_append_1, Nat.add_sub_cancel' hk.le]
  have hhead : List.range' k (24 - k) = k :: laterBits k := by
    rw [show 24 - k = 23 - k + 1 by omega, List.range'_succ, laterBits]
  rw [List.range_eq_range', List.range_eq_range', hsplit, Nat.zero_add, hhead]

theorem bits24_eq {k : Nat} (hk : k < 24) (w : Word24) :
    bits24 w = bitsAt w (List.range k) ++ w.getLsbD (23 - k) :: bitsAt w (laterBits k) := by
  rw [bits24, range_24_eq hk, List.map_append, List.map_cons]; rfl

theorem bitsAt_range_length (w : Word24) (k : Nat) : (bitsAt w (List.range k)).length = k := by
  rw [bitsAt, List.length_map, List.length_range]

theorem bits24_eraseIdx {k : Nat} (hk : k < 24) (w : Word24) :
    (bits24 w).eraseIdx k = bitsAt w (List.range k) ++ bitsAt w (laterBits k) := by
  have hlength := bitsAt_range_length w k
  rw [bits24_eq hk, List.eraseIdx_append_of_length_le hlength.le, hlength, Nat.sub_self,
    List.eraseIdx_cons_zero]

theorem bits24_set {k : Nat} (hk : k < 24) (w : Word24) (b : Level) :
    (bits24 w).set k b = bitsAt w (List.range k) ++ b :: bitsAt w (laterBits k) := by
  have hlength := bitsAt_range_length w k
  rw [bits24_eq hk, List.set_append_right k b hlength.le, hlength, Nat.sub_self, List.set_cons_zero]

/-- The script of a transmission around the writes of the bit at place `k`. -/
theorem transmitScript_around {k : Nat} (hk : k < 24) (w : Word24) :
    transmitScript w = openingWrites ++ ((List.range k).flatMap (bitWrites w) ++ (bitWrites w k ++
      ((laterBits k).flatMap (bitWrites w) ++ .delay :: closingWrites))) := by
  simp only [transmitScript, range_24_eq hk, List.flatMap_append, List.flatMap_cons, List.append_assoc]

theorem attemptsIn_flatMap_bitWrites (w : Word24) (is : List Nat) :
    attemptsIn (is.flatMap (bitWrites w)) = 3 * is.length := by
  induction is with
  | nil => rfl
  | cons i is ih =>
    rw [List.flatMap_cons, attemptsIn_append, attemptsIn_bitWrites, ih, List.length_cons]
    omega

/-- The observer of a transmission before its bit at place `k`, every write so far effective. -/
def beforeBit (w : Word24) (k : Nat) : Observer :=
  sampled ⟨⟨false, false, false⟩, [], [], []⟩ (bitsAt w (List.range k))

/-- After a first bit the clock is high and DATA holds the bit before. -/
theorem beforeBit_level (w : Word24) (k : Nat) :
    (beforeBit w k).level =
      if k = 0 then ⟨false, false, false⟩ else ⟨false, true, w.getLsbD (24 - k)⟩ := by
  cases k with
  | zero => rfl
  | succ k => simp [beforeBit, sampled, bitsAt, List.range_succ]

theorem beforeBit_cs (w : Word24) (k : Nat) : (beforeBit w k).level.cs = false := sampled_cs rfl _

/-- A transmission whose writes are effective but for those of the bit at place `k`, whatever the observer
sees of these. -/
theorem watch_around {s : State} {k : Nat} {o : Observer} (hk : k < 24) (w : Word24)
    (hlow : EffectiveFrom s 0 (3 + 3 * k)) (hhigh : EffectiveFrom s (6 + 3 * k) (72 - 3 * k))
    (hbit : (beforeBit w k).watch s (3 + 3 * k) (bitWrites w k) = o) (hcs : o.level.cs = false) :
    (atLevels s.level).watch s 0 (transmitScript w) =
      ⟨⟨true, false, false⟩, [], o.bits ++ bitsAt w (laterBits k),
        o.frames ++ [o.window ++ bitsAt w (laterBits k)]⟩ := by
  have hopened : (atLevels s.level).watch s 0 openingWrites = ⟨⟨false, false, false⟩, [], [], []⟩ := by
    rw [watch_opening _ (hlow.sub (by omega) (by omega)) (.refl _), pending_nil rfl]; rfl
  have hbefore : (⟨⟨false, false, false⟩, [], [], []⟩ : Observer).watch s 3
      ((List.range k).flatMap (bitWrites w)) = beforeBit w k :=
    watch_bits rfl w _ (hlow.sub (by omega) (by rw [List.length_range, Nat.zero_add]))
  have hlater : (laterBits k).length = 23 - k := List.length_range'
  have hthree : attemptsIn openingWrites = 3 := rfl
  rw [transmitScript_around hk, watch_append, hopened, hthree, watch_append,
    attemptsIn_flatMap_bitWrites, List.length_range, Nat.zero_add, hbefore, watch_append, hbit,
    attemptsIn_bitWrites, watch_append, attemptsIn_flatMap_bitWrites, hlater,
    watch_bits hcs w _ (hhigh.sub (by omega) (by omega)), watch_delay,
    watch_closing (sampled_cs hcs _) (hhigh.sub (by omega) (by omega)) (.refl _)]
  rfl

section
variable {s : State} {k : Nat} {o : Observer} (hcs : o.level.cs = false) (w : Word24) (i : Nat)
include hcs

/-- The clock does not rise: the bit is not sampled (R80 (c)). -/
theorem watch_bit_rise_dropped (h : EffectiveFrom s k 2) (hdrop : ∀ l, s.effective l (k + 2) = false) :
    o.watch s k (bitWrites w i) = { o with level := ⟨false, false, w.getLsbD (23 - i)⟩ } := by
  have h0 := h.head
  have h1 := h.tail.head
  obtain ⟨⟨cs, clk, data⟩, window, bits, frames⟩ := o
  obtain rfl : cs = false := hcs
  simp only [bitWrites, watch_write_effective, watch_write_dropped, h0, h1, hdrop, driven_data,
    driven_clk_false, watch_nil]

/-- The clock, high already, has not fallen and does not rise: the bit is not sampled (R80 (d)). -/
theorem watch_bit_fall_dropped (hclk : o.level.clk = true) (hdrop : ∀ l, s.effective l k = false)
    (h : EffectiveFrom s (k + 1) 2) :
    o.watch s k (bitWrites w i) = { o with level := ⟨false, true, w.getLsbD (23 - i)⟩ } := by
  have h1 := h.head
  have h2 := h.tail.head
  obtain ⟨⟨cs, clk, data⟩, window, bits, frames⟩ := o
  obtain rfl : cs = false := hcs
  obtain rfl : clk = true := hclk
  simp only [bitWrites, watch_write_effective, watch_write_dropped, h1, h2, hdrop, driven_data,
    driven_clk_stays, watch_nil]

/-- DATA keeps its level, which is sampled (R80 (e)). -/
theorem watch_bit_data_dropped (h0 : ∀ l, s.effective l k = true)
    (hdrop : ∀ l, s.effective l (k + 1) = false) (h2 : ∀ l, s.effective l (k + 2) = true) :
    o.watch s k (bitWrites w i) = o.sampled [o.level.data] := by
  obtain ⟨⟨cs, clk, data⟩, window, bits, frames⟩ := o
  obtain rfl : cs = false := hcs
  simp only [bitWrites, watch_write_effective, watch_write_dropped, h0, h2, hdrop, driven_clk_false,
    driven_clk_rise, watch_nil]
  rfl

end

section
variable {s : State} {j : Nat} (hready : LinesReady s) (hfail : OnlyFails s j 78)
include hready hfail

/-- Of a bit whose clock does not rise when it should, nothing is sampled. -/
theorem watch_bit_clock_dropped (w : Word24) {k : Nat}
    (hj : k < 24 ∧ j = 5 + 3 * k ∨ 1 ≤ k ∧ k < 24 ∧ j = 3 + 3 * k) :
    ∃ h, h.cs = false ∧
      (beforeBit w k).watch s (3 + 3 * k) (bitWrites w k) = { beforeBit w k with level := h } := by
  rcases hj with ⟨hk, rfl⟩ | ⟨h1, hk, rfl⟩
  · have hdrop : ∀ l, s.effective l (3 + 3 * k + 2) = false := fun l => by
      rw [show 3 + 3 * k + 2 = 5 + 3 * k by omega]
      exact hfail.dropped hready (by omega) l
    exact ⟨_, rfl, watch_bit_rise_dropped (beforeBit_cs w k) w k
      (hfail.effectiveFrom hready (by omega) (by omega)) hdrop⟩
  · have hclk : (beforeBit w k).level.clk = true := by rw [beforeBit_level, if_neg (by omega)]
    exact ⟨_, rfl, watch_bit_fall_dropped (beforeBit_cs w k) w k hclk
      (hfail.dropped hready (by omega))
      (hfail.effectiveFrom hready (by omega) (by omega))⟩

end

/-- Settles O24: the writes around the bit are effective, of the bit itself nothing is sampled. -/
theorem droppedClockWriteLosesBit : Obligations.DroppedClockWriteLosesBit := by
  intro w s k j hbusy hready hfail hj
  have hk : k < 24 := by omega
  obtain ⟨h, hcs, hbit⟩ := watch_bit_clock_dropped hready hfail w hj
  have hseen := watch_around hk w (hfail.effectiveFrom hready (by omega) (by omega))
    (hfail.effectiveFrom hready (by omega) (by omega)) hbit hcs
  rw [bits24_eraseIdx hk]
  exact ⟨_, exec_ready hbusy _, issued_wire (i := .transmit w) rfl hseen⟩

/-- Settles O25: the writes around the bit are effective, and DATA holds the bit before. -/
theorem droppedDataWriteRepeatsBit : Obligations.DroppedDataWriteRepeatsBit := by
  intro w s k hbusy hready hk hfail
  have hbefore := hfail.effectiveFrom hready (k := 3 + 3 * k) (m := 1) (by omega) (by omega)
  have hafter := hfail.effectiveFrom hready (k := 3 + 3 * k + 2) (m := 1) (by omega) (by omega)
  have hdrop : ∀ l, s.effective l (3 + 3 * k + 1) = false := fun l => by
    rw [show 3 + 3 * k + 1 = 4 + 3 * k by omega]
    exact hfail.dropped hready (by omega) l
  have hbit := watch_bit_data_dropped (beforeBit_cs w k) w k hbefore.head hdrop hafter.head
  have hheld : (beforeBit w k).level.data = if k = 0 then false else w.getLsbD (24 - k) := by
    rw [beforeBit_level]; split_ifs <;> rfl
  have hseen := watch_around hk w (hfail.effectiveFrom hready (by omega) (by omega))
    (hfail.effectiveFrom hready (by omega) (by omega)) hbit (sampled_cs (beforeBit_cs w k) _)
  refine ⟨_, exec_ready hbusy _, ?_⟩
  intro held
  rw [bits24_set hk, show held = (beforeBit w k).level.data from hheld.symm]
  obtain ⟨hbits, hframes⟩ := issued_wire (i := .transmit w) rfl hseen
  rw [hbits, hframes]
  simp [beforeBit, sampled]

/-- The write that deselects is dropped: the window stays open (R80 (f)). -/
theorem watch_closing_dropped {s : State} {k : Nat} {o : Observer} (h : EffectiveFrom s k 2)
    (hdrop : ∀ l, s.effective l (k + 2) = false) :
    o.watch s k closingWrites = { o with level := ⟨o.level.cs, false, false⟩ } := by
  have h0 := h.head
  have h1 := h.tail.head
  obtain ⟨⟨cs, clk, data⟩, window, bits, frames⟩ := o
  simp only [closingWrites, watch_write_effective, watch_write_dropped, h0, h1, hdrop, driven_data,
    driven_clk_false, watch_nil]

/-- A transmission of which only the write that deselects is dropped. -/
theorem watch_transmitScript_unclosed {s : State} {o : Observer} (hopen : o.window = [])
    (h : EffectiveFrom s 0 77) (hdrop : ∀ l, s.effective l 77 = false) (w : Word24) :
    o.watch s 0 (transmitScript w) = ⟨⟨false, false, false⟩, bits24 w, o.bits ++ bits24 w, o.frames⟩ := by
  obtain ⟨hcount, hsent⟩ := watch_sent o (h.sub (Nat.le_refl 0) (by omega)) w (.refl _)
  rw [transmitScript, watch_append, hcount, hsent, watch_delay,
    watch_closing_dropped (h.sub (by omega) (by omega)) hdrop, pending_nil hopen]
  rfl

/-- Settles O26: the first transmission leaves its window open, the second adds its bits and closes it. -/
theorem droppedDeselectJoinsFrames : Obligations.DroppedDeselectJoinsFrames := by
  intro w w' s hbusy hready hfail
  have hfirst := watch_transmitScript_unclosed (o := atLevels s.level) rfl
    (hfail.effectiveFrom hready (by omega) (by omega))
    (hfail.dropped hready (by omega)) w
  have hboth : (atLevels s.level).watch s 0 (transmitScript w ++ transmitScript w') =
      ⟨⟨true, false, false⟩, [], bits24 w ++ bits24 w', [bits24 w ++ bits24 w']⟩ := by
    rw [watch_append, hfirst, attemptsIn_transmitScript, transmitScript,
      watch_script _ (hfail.effectiveFrom hready (by omega) (by omega)) w' (.refl _) (.refl _)]
    rfl
  obtain ⟨-, hnone⟩ := issued_wire (i := .transmit w) rfl hfirst
  exact ⟨_, _, exec_ready hbusy _, exec_ready (returnToHost_busy _) _, hnone,
    (issued_transmit_transmit_driver w w' s).wire_eq hboth⟩

/-! ### Nothing selected, nothing owned -/

/-- Driven anywhere but chip-select low, the lines show nothing while chip-select is high. -/
theorem driven_deselected {o : Observer} (hcs : o.level.cs = true) {l : Line} {b : Level}
    (hne : MicroAction.write l b ≠ .write .cs false) :
    (o.level.set l b).cs = true ∧ o.driven l b = ⟨o.level.set l b, o.window, o.bits, o.frames⟩ := by
  obtain ⟨⟨cs, clk, data⟩, window, bits, frames⟩ := o
  obtain rfl : cs = true := hcs
  cases l with
  | cs =>
    cases b with
    | false => exact absurd rfl hne
    | true => exact ⟨rfl, see_level _⟩
  | clk => cases clk <;> cases b <;> exact ⟨rfl, rfl⟩
  | data => exact ⟨rfl, driven_data ..⟩

/-- While chip-select is high, actions that do not write it low show nothing, whatever becomes of them. -/
theorem watch_deselected {s : State} {k : Nat} {o : Observer} (hcs : o.level.cs = true)
    {ms : List MicroAction} (hms : .write .cs false ∉ ms) :
    ∃ h, h.cs = true ∧ o.watch s k ms = ⟨h, o.window, o.bits, o.frames⟩ := by
  induction ms generalizing o k with
  | nil => exact ⟨o.level, hcs, rfl⟩
  | cons m ms ih =>
    obtain ⟨hm, hrest⟩ := List.ne_and_not_mem_of_not_mem_cons hms
    cases m with
    | delay => rw [watch_delay]; exact ih hcs hrest
    | write l b =>
      cases heff : s.effective l k with
      | false => rw [watch_write_dropped _ _ heff]; exact ih hcs hrest
      | true =>
        obtain ⟨hcs', hsame⟩ := driven_deselected hcs (Ne.symm hm)
        rw [watch_write_effective _ _ heff, hsame]
        exact ih hcs' hrest

/-- Settles O23: before and after the write that selects, nothing writes chip-select low. -/
theorem droppedSelectHidesFrame : Obligations.DroppedSelectHidesFrame := by
  intro w s hbusy hready hfail hcs
  have hscript : transmitScript w = [.write .data false, .write .clk false] ++
      .write .cs false :: ((List.range 24).flatMap (bitWrites w) ++ .delay :: closingWrites) := by
    simp [transmitScript, openingWrites]
  have htwo : 0 + attemptsIn [.write .data false, .write .clk false] = 2 := rfl
  obtain ⟨h, hh, hbefore⟩ := watch_deselected (s := s) (k := 0) (o := atLevels s.level) hcs
    (ms := [.write .data false, .write .clk false]) (by decide)
  obtain ⟨h', -, hafter⟩ := watch_deselected (s := s) (k := 3) (o := atLevels h) hh
    (ms := (List.range 24).flatMap (bitWrites w) ++ .delay :: closingWrites)
    (by simp [bitWrites, closingWrites])
  have hseen : (atLevels s.level).watch s 0 (transmitScript w) = atLevels h' := by
    rw [hscript, watch_append, hbefore, htwo,
      watch_write_dropped _ _ (hfail.dropped hready (by decide) .cs)]
    exact hafter
  exact ⟨_, exec_ready hbusy _, issued_wire (i := .transmit w) rfl hseen⟩

/-- While no line is owned the observer sees nothing. -/
theorem watch_of_noneOwned {s : State} (h : NoneOwned s) (k : Nat) (o : Observer) (ms : List MicroAction) :
    o.watch s k ms = o := by
  induction ms generalizing k with
  | nil => rfl
  | cons m ms ih =>
    cases m with
    | delay => rw [watch_delay, ih]
    | write l b => rw [watch_write_dropped _ _ (State.effective_of_noneOwned h l k), ih]

/-- The diagnostics of a list of actions are of dropped writes. -/
theorem actionEvents_failure_kind {s : State} {k : Nat} {ms : List MicroAction} {d : Diag}
    (h : d ∈ (actionEvents s k ms).filterMap Event.failure) : d.kind = .diagWrite := by
  induction ms generalizing k with
  | nil => cases h
  | cons m ms ih =>
    cases m with
    | delay => exact ih h
    | write l b =>
      cases heff : s.effective l k with
      | true =>
        rw [actionEvents, heff, List.filterMap_cons_none rfl] at h
        exact ih h
      | false =>
        simp only [actionEvents, heff, Event.failure, List.filterMap_cons, Bool.false_eq_true, if_false,
          List.mem_cons] at h
        rcases h with rfl | h
        · rfl
        · exact ih h

/-- The script of an operation that sends `n` words: 79 actions and 78 attempts for each. -/
theorem exists_script_of_words {q : Params} {i : Instr} {n : Nat}
    (h : (∃ w, i = .transmit w) ∧ n = 1 ∨ (∃ a v, i = .writereg a v) ∧ n = 2 ∨
      (∃ p, i = .initpanel p) ∧ n = 2 * q.panelTable.length) :
    ∃ ms, scriptOf q i = some ms ∧ ms.length = 79 * n ∧ attemptsIn ms = 78 * n := by
  rcases h with ⟨⟨w, rfl⟩, rfl⟩ | ⟨⟨a, v, rfl⟩, rfl⟩ | ⟨⟨p, rfl⟩, rfl⟩
  · exact ⟨_, rfl, transmitScript_length w, attemptsIn_transmitScript w⟩
  · exact ⟨_, rfl, writeScript_length a v, attemptsIn_writeScript a v⟩
  · refine ⟨_, rfl, ?_, ?_⟩
    · rw [tableScript, entriesScript_length]; omega
    · rw [tableScript, attemptsIn_entriesScript]; omega

/-- Settles O22: the script runs whatever the answers; growth with no line owned drops every write. -/
theorem useBeforeSetupIsSilent : Obligations.UseBeforeSetupIsSilent := by
  intro s i n hbusy hnone hi
  obtain ⟨ms, hscript, hlength, hattempts⟩ := exists_script_of_words hi
  obtain ⟨howned, -⟩ := issued_keeps_lines hscript
  obtain ⟨hevents, hdiags, -⟩ := issued_since hscript
  obtain ⟨es, hg⟩ := issued_grows i s
  have hfree : NoneOwned (issued i s) := fun l => by rw [howned]; exact hnone l
  refine ⟨_, exec_ready hbusy i, returnToHost_busy _, hg.level_eq_of_noneOwned hfree, ?_, ?_, ?_, ?_,
    issued_wire hscript (watch_of_noneOwned hnone 0 _ ms)⟩
  · rw [hevents, actionEvents_length, hlength]
  · rw [hg.eventsSince_eq]
    exact fun l b eff he => hg.write_dropped_of_noneOwned hfree he
  · rw [hdiags, actionEvents_failures_length hnone, hattempts]
  · rw [hdiags]
    exact fun d hd => actionEvents_failure_kind hd

end Sys2Proof.Machine

/-! PROOFS. Line set-up and the wire: what a successful set-up leaves (R98), the bits of a whole SETDISPLAY
after a quiet one (R99, R131), the stray bit after a noisy one, and the idle wire after a transmission
(R26). -/

namespace Sys2Proof.Machine

open Observer

/-! ### The idle wire (R26) -/

/-- When the closing writes end some actions and the trace ends with them effective, the wire is idle. -/
theorem SameDriver.level_of_closing {s t : State} {ms : List MicroAction} {es : List Event}
    (h : SameDriver t (runActions (ms ++ closingWrites) s))
    (htrace : t.trace = es ++ [.evWrite .data false true, .evWrite .clk false true, .evWrite .cs true true]) :
    t.level = ⟨true, false, false⟩ := by
  rw [runActions_append] at h
  generalize runActions ms s = u at h
  obtain ⟨hlevel, -, -, hsame, -⟩ := h
  obtain ⟨hrun, -, -, hend, -⟩ := runActions_logs (Continues.refl u) closingWrites
  have hevents : actionEvents u 0 closingWrites =
      [.evWrite .data false true, .evWrite .clk false true, .evWrite .cs true true] :=
    (List.append_inj' (hrun.symm.trans (hsame.symm.trans htrace)) rfl).2
  simp only [closingWrites, actionEvents, List.cons.injEq, Event.evWrite.injEq, true_and, and_true] at hevents
  obtain ⟨hdata, hclk, hcs⟩ := hevents
  rw [hlevel, hend]
  simp only [closingWrites, actionLevels, hdata, hclk, hcs, if_true]
  rfl

theorem transmitScript_closing (w : Word24) : ∃ ms, transmitScript w = ms ++ closingWrites :=
  ⟨openingWrites ++ (List.range 24).flatMap (bitWrites w) ++ [.delay], by simp [transmitScript]⟩

theorem writeScript_closing (a v : Word16) : ∃ ms, writeScript a v = ms ++ closingWrites := by
  obtain ⟨ms, hms⟩ := transmitScript_closing (dataFrame v)
  exact ⟨transmitScript (addrFrame a) ++ ms, by rw [writeScript, hms, List.append_assoc]⟩

theorem entriesScript_closing {es : List PanelEntry} (hne : es ≠ []) (p : Word16) :
    ∃ ms, entriesScript es p = ms ++ closingWrites := by
  induction es with
  | nil => exact absurd rfl hne
  | cons e es ih =>
    rw [entriesScript_cons]
    by_cases hes : es = []
    · obtain ⟨ms, hms⟩ := writeScript_closing e.reg (entryValue e.value p)
      exact ⟨ms, by rw [hes, hms]; exact List.append_nil _⟩
    · obtain ⟨ms, hms⟩ := ih hes
      exact ⟨writeScript e.reg (entryValue e.value p) ++ ms, by rw [hms, List.append_assoc]⟩

/-- Settles O21: the last actions of each of the four operations are the closing writes. -/
theorem wireIdleAfterTransmission : Obligations.WireIdleAfterTransmission := by
  rintro s t i hexec hi ⟨es, htrace⟩
  obtain ⟨u, ms, hdriver⟩ : ∃ u ms, SameDriver t (runActions (ms ++ closingWrites) u) := by
    rw [exec_eq_issue] at hexec
    obtain ⟨-, rfl⟩ := issue_next hexec
    rcases hi with ⟨w, rfl⟩ | ⟨a, v, rfl⟩ | ⟨⟨p, rfl⟩ | ⟨b, c, rfl⟩, hne⟩
    · obtain ⟨ms, hms⟩ := transmitScript_closing w
      exact ⟨s, ms, hms ▸ issued_driver (i := .transmit w) rfl⟩
    · obtain ⟨ms, hms⟩ := writeScript_closing a v
      exact ⟨s, ms, hms ▸ issued_writereg_driver a v s⟩
    · obtain ⟨ms, hms⟩ := entriesScript_closing hne p
      exact ⟨s, ms, hms ▸ issued_initpanel_driver p s⟩
    · obtain ⟨ms, hms⟩ := entriesScript_closing hne (packDisplay b c)
      exact ⟨displayReady s, ms, hms ▸ issued_setdisplay b c s⟩
  exact hdriver.level_of_closing htrace

/-! ### A set-up in which every attempt succeeds (R98) -/

/-- The line is owned and no input. -/
def LineReady (s : State) (l : Line) : Prop := s.owned.get l = true ∧ s.dir.get l ≠ .input

/-- With both attempts answered `true` a line becomes ready, and the others keep what they are. -/
theorem setupLine_of_ok (l : Line) {s : State} (h0 : s.okAt 0 = true) (h1 : s.okAt 1 = true) :
    (∀ l', l' = l ∨ LineReady s l' → LineReady (setupLine l s) l') ∧
    ∀ k, (setupLine l s).okAt k = s.okAt (k + 2) := by
  have hexported : (lineExport l s).owned = s.owned.set l true ∧ (lineExport l s).dir = s.dir ∧
      ∀ k, (lineExport l s).okAt k = s.okAt (k + 1) := by
    rw [lineExport_eq, h0]
    exact ⟨rfl, rfl, fun k => (State.okAt_congr rfl rfl k).trans (s.okAt_popOk k)⟩
  obtain ⟨howned, hdir, hok⟩ := hexported
  have hset : (setupLine l s).owned = s.owned.set l true ∧ (setupLine l s).dir = s.dir.set l .output ∧
      ∀ k, (setupLine l s).okAt k = (lineExport l s).okAt (k + 1) := by
    have hready : ((lineExport l s).owned.get l && (lineExport l s).okAt 0) = true := by
      rw [howned, hok, PerLine.get_set_same]; exact h1
    rw [setupLine, lineSetDir_eq, hready, ← hdir, ← howned]
    exact ⟨rfl, rfl, fun k => (State.okAt_congr rfl rfl k).trans ((lineExport l s).okAt_popOk k)⟩
  obtain ⟨howned', hdir', hok'⟩ := hset
  refine ⟨fun l' hl' => ?_, fun k => by rw [hok', hok]⟩
  rw [LineReady, howned', hdir']
  by_cases heq : l' = l
  · rw [heq, PerLine.get_set_same, PerLine.get_set_same]
    exact ⟨rfl, Dir.noConfusion⟩
  · rw [PerLine.get_set_of_ne _ _ heq, PerLine.get_set_of_ne _ _ heq]
    exact hl'.resolve_left heq

theorem setupLines_of_ok (ls : List Line) {s : State} (hok : AllOk s (2 * ls.length)) :
    (∀ l, l ∈ ls ∨ LineReady s l → LineReady (setupLines ls s) l) ∧
    ∀ k, (setupLines ls s).okAt k = s.okAt (k + 2 * ls.length) := by
  induction ls generalizing s with
  | nil => exact ⟨fun l h => h.resolve_left List.not_mem_nil, fun _ => rfl⟩
  | cons l ls ih =>
    rw [List.length_cons] at hok ⊢
    obtain ⟨hready, hshift⟩ := setupLine_of_ok l (hok 0 (by omega)) (hok 1 (by omega))
    obtain ⟨hrest, hshift'⟩ := ih (s := setupLine l s) fun k hk => by
      rw [hshift]; exact hok (k + 2) (by omega)
    refine ⟨fun l' hl' => hrest l' ?_, fun k => ?_⟩
    · rw [List.mem_cons, or_comm (a := l' = l), or_assoc] at hl'
      exact hl'.imp_right (hready l')
    · exact (hshift' k).trans ((hshift _).trans (congrArg s.okAt (by omega)))

/-- After a set-up that succeeds in full, with `n` more answers to come, the next `n` writes are
effective. -/
theorem lineSetup_allEff {s : State} {n : Nat} (hok : AllOk s (6 + n)) : AllEff (lineSetup s) n := by
  obtain ⟨hready, hshift⟩ := setupLines_of_ok setupOrder (s := s) fun k hk => hok k (Nat.lt_add_right n hk)
  refine ⟨fun l => hready l (.inl ?_), fun k hk => ?_⟩
  · cases l <;> decide
  · exact (hshift k).trans (hok _ (by rw [show 2 * setupOrder.length = 6 from rfl]; omega))

/-! ### The bits of a whole SETDISPLAY (R99, R131) -/

theorem sampleWire_append {h h' : PerLine Level} {hs : List (PerLine Level)}
    (hlast : (h :: hs).getLast? = some h') (hs' : List (PerLine Level)) :
    sampleWire (h :: (hs ++ hs')) = sampleWire (h :: hs) ++ sampleWire (h' :: hs') := by
  induction hs generalizing h with
  | nil =>
    obtain rfl : h = h' := Option.some.inj hlast
    rfl
  | cons g hs ih =>
    rw [List.getLast?_cons_cons] at hlast
    rw [List.cons_append, sampleWire, sampleWire, ih hlast, List.append_assoc]

/-- The bits sampled over two stretches are those of the first and those of the second. -/
theorem sampleWire_historySince {s t u : State} {hs : List (PerLine Level)} (h : Grows s t)
    (hu : u.history = t.history ++ hs) :
    sampleWire (historySince s u) = sampleWire (historySince s t) ++ sampleWire (historySince t u) := by
  obtain ⟨es, hg⟩ := h
  obtain ⟨gs, hhistory, -, hlast⟩ := hg.history
  rw [historySince, historySince, historySince, hu, List.drop_left, hhistory, List.append_assoc,
    List.drop_left, List.drop_left, sampleWire_append hlast]

/-- Marking set-up as done is nothing at the lines. -/
theorem markInit_allEff {s : State} {n : Nat} (h : AllEff s n) : AllEff (markInit s) n := h

theorem historySince_markInit (s t : State) : historySince s (markInit t) = historySince s t := rfl

/-- Settles O39: a quiet set-up samples nothing, and the bring-up after it has every write effective. -/
theorem setdisplayBitsOnWire : Obligations.SetdisplayBitsOnWire := by
  intro b c s u hs hdue hok hsetup hquiet
  have ⟨hbusy, _⟩ := hs
  have hops := execAll_setupOpsOf setupOrder [] hbusy
  rw [List.append_nil, ← setupOps_eq, ← lineSetup_eq, hsetup] at hops
  obtain rfl : u = lineSetup s := Host.Outcome.next.inj hops
  have hstart : displayReady s = markInit (lineSetup s) := displayReady_of_due hdue
  have heff : AllEff (displayReady s) (156 * s.params.panelTable.length) := by
    rw [hstart]; exact markInit_allEff (lineSetup_allEff hok)
  have hquiet' : sampleWire (historySince s (displayReady s)) = [] := by
    rw [hstart, historySince_markInit]; exact hquiet
  have hdriver := issued_setdisplay b c s
  have ⟨_, _, _, _, _, hhistory, _⟩ := hdriver
  obtain ⟨-, -, hrun, -⟩ := runActions_logs (Continues.refl (displayReady s))
    (tableScript s.params (packDisplay b c))
  obtain ⟨hbits, -⟩ := hdriver.wire_eq rfl
  obtain ⟨hseen, -⟩ := watch_entriesScript (o := atLevels (displayReady s).level) s.params.panelTable
    (packDisplay b c) rfl heff.effectiveFrom
  refine ⟨_, exec_ready hbusy _, ?_⟩
  rw [sampleWire_historySince (displayReady_grows s) (hhistory.trans hrun), hquiet', List.nil_append,
    hbits, ← packDisplay_eq_append, tableFrames_eq]
  exact hseen

/-! ### The stray bit (R131, program P5) -/

/-- Nothing owned; every attempt will succeed; line set-up will draw chip-select low and then clock high,
DATA being high. -/
def noisyStart : State :=
  { State.reset with
    level := ⟨true, false, true⟩
    answers := List.replicate 162 true
    draws := [false, true, false]
    history := [⟨true, false, true⟩] }

/-- Settles O53: the run from `noisyStart`. -/
theorem strayBitIsAdmitted : Obligations.StrayBitIsAdmitted := by
  refine ⟨noisyStart, issued (.writereg 0x0001#16 0x1234#16) (lineSetup noisyStart),
    ⟨rfl, rfl, rfl, rfl, rfl⟩, State.reset_owned_get, ?_, ?_, ?_⟩
  · rw [setupOps_eq, execAll_setupOpsOf _ _ rfl, ← lineSetup_eq, execAll_singleton rfl]
  · decide +kernel
  · decide +kernel

end Sys2Proof.Machine
